-- ==== Sys2Proof/Word.lean ====
section
/-! DEFINITION. The word types of the block (00_scope.md rules R10, R14 and R17): 32-bit words, bytes, and linear
colours of three Q7.24 words. -/

namespace Sys2Proof

/-- A 32-bit word: a register, a command word, a Q7.24 value or a word of system memory (rules R10 and R14). -/
abbrev Word := BitVec 32

/-- One byte of system memory, or one channel of an RGBA8 element (rule R103). -/
abbrev Byte := BitVec 8

/-- Three Q7.24 words indexed by channel number 0, 1, 2 (rule R17): a linear colour, a matrix row or the luminance
weights. A word's value is its signed reading (rule R10). -/
structure Lin where
  c0 : Word
  c1 : Word
  c2 : Word
  deriving DecidableEq, Repr, Inhabited

/-- A 3x3 coefficient matrix, row-major (rule R17): row `i` gives output channel `i`. -/
structure Mat where
  r0 : Lin
  r1 : Lin
  r2 : Lin
  deriving DecidableEq, Repr, Inhabited

end Sys2Proof
end

