-- ==== Sys2Proof/Config.lean ====
section
/-! DEFINITION. What an instance of the block fixes: the derived grid constants of 00_scope.md rule R9 at B = 5
(rule R8, log entry 12) and the parameters of rule R13 that the model leaves open. The parameters are opaque constants
without a body: no proof can see their values. -/

namespace Sys2Proof.Config

/-- LUT_BITS, written B: the grid's bit width per axis (rule R8). -/
abbrev lutBits : Nat := 5

/-- FRAC: fraction bits of the Q7.24 format (rule R10). -/
abbrev frac : Nat := 24

/-- N: the grid's edge length, 2^B (rule R9). -/
abbrev edge : Nat := 2 ^ lutBits

/-- FS: the fractional shift, 8 - B (rule R9). -/
abbrev fracShift : Nat := 8 - lutBits

/-- HALF: half a bucket, 2^(FS-1) (rule R9). -/
abbrev half : Nat := 2 ^ (fracShift - 1)

/-- OVF: one grid step in weight units, 2^FS (rule R9). -/
abbrev ovf : Nat := 2 ^ fracShift

/-- SCALE: 256 / N (rule R9). -/
abbrev scale : Nat := 256 / edge

/-- OFFSET: SCALE / 2 (rule R9). -/
abbrev offset : Nat := scale / 2

/-- NCELL: the number of grid cells, N^3 (rule R9). -/
abbrev cells : Nat := edge ^ 3

/-- IMG_W: the LUT image's width, N^2 (rule R9). -/
abbrev imageWidth : Nat := edge ^ 2

/-- IMG_H: the LUT image's height, N (rule R9). -/
abbrev imageHeight : Nat := edge

/-- The number of system-memory addresses, 2^ADDR_W with ADDR_W = 32 (rules R11 and R100). -/
abbrev addresses : Nat := 2 ^ 32

/-- The external transform port `XF` (rules R13 and R58, 93_implementation_defined.md entry I9): a total pure function
of a linear colour, about which nothing else is known (log entry 4). -/
opaque xf : Lin → Lin

/-- The draw `GRID_INIT[n]` of one grid entry (rules R13 and R342, entry I3): a free value for each reset (first
argument, the number of the reset) and each cell (second argument), under no law (log entry 5). -/
opaque gridInit : Nat → Nat → Word

/-- MMIO_BASE: the system address of the register window (rule R13, entry I11), the platform's choice (log entry 7). -/
opaque mmioBase : Word

/-- The system address at which a host finds the register at `off` of the 4 KiB window (rule R56). The model's host
inputs name registers by their offset, as rules R171 and R178 do. -/
def windowAddress (off : BitVec 12) : Word := mmioBase + off.setWidth 32

end Sys2Proof.Config
end

