-- ==== Sys2Proof/Syntax.lean ====
section
/-! DEFINITION. The command set: one constructor per row of spec/opcode_table.json (30_encoding.md rule R150), with the
fields the row uses (rules R141 to R148). -/

namespace Sys2Proof

/-- A gamma bank (rule R200): the value of the fields DB and EB (rules R144 and R145). -/
inductive Bank where
  /-- Field value 0: the 255-scale variant. -/
  | scale255
  /-- Field value 1: the 256-scale variant. -/
  | scale256
  deriving DecidableEq, Repr

/-- The matrix chain enables, field CH (rule R147): bit 7 enables M0, bit 8 M1, bit 9 M2. -/
structure Chain where
  m0 : Bool
  m1 : Bool
  m2 : Bool
  deriving DecidableEq, Repr

/-- The mono select, field MS (rule R148): what APPLY_MONO indexes the ramp by. -/
inductive Mono where
  | red
  | green
  | blue
  | luminance
  deriving DecidableEq, Repr

/-- The eleven commands (rule R150). A constructor's arguments are the fields its row uses: `db` and `eb` the decode
and encode banks, `ch` the chain enables, `xs` the transform source (rule R146), `x` the extrapolation bit (rule R143),
`ms` the mono select. -/
inductive Instr where
  /-- NOP, rule R210. -/
  | nop
  /-- DECODE, rule R211. -/
  | decode (db : Bank)
  /-- ENCODE, rule R212. -/
  | encode (eb : Bank)
  /-- XFORM, rule R213. -/
  | xform (ch : Chain) (xs : Bool)
  /-- PIPE, rule R214. -/
  | pipe (db eb : Bank) (ch : Chain) (xs : Bool)
  /-- BUILD, rule R250. -/
  | build (db eb : Bank) (ch : Chain) (xs : Bool)
  /-- APPLY_TRI, rule R256. -/
  | applyTri (x : Bool)
  /-- APPLY_NEAREST, rule R265. -/
  | applyNearest
  /-- APPLY_MONO, rule R270. -/
  | applyMono (db eb : Bank) (ms : Mono)
  /-- LUT_LOAD, rule R280. -/
  | lutLoad
  /-- LUT_STORE, rule R285. -/
  | lutStore
  deriving DecidableEq, Repr

end Sys2Proof
end

