-- ==== Sys2Proof/WellFormed.lean ====
section
/-! DEFINITION. Which commands are legal as syntax: 30_encoding.md rule R151 clause (3). The other clauses (a defined OP,
unused and reserved bits zero) cannot be violated by a term of `Instr`; they are the decoder's. -/

namespace Sys2Proof

/-- No matrix of the chain is enabled: CH = 0 (rule R147). -/
def Chain.isEmpty (ch : Chain) : Bool := !ch.m0 && !ch.m1 && !ch.m2

/-- The external transform is not combined with the chain (rules R146 and R151): not XS = 1 with CH ≠ 0. -/
def transformLegal (ch : Chain) (xs : Bool) : Bool := !xs || ch.isEmpty

/-- A command is well formed exactly when its word is a legal command (rule R151). -/
def Instr.wf : Instr → Bool
  | .nop => true
  | .decode _ => true
  | .encode _ => true
  | .xform ch xs => transformLegal ch xs
  | .pipe _ _ ch xs => transformLegal ch xs
  | .build _ _ ch xs => transformLegal ch xs
  | .applyTri _ => true
  | .applyNearest => true
  | .applyMono _ _ _ => true
  | .lutLoad => true
  | .lutStore => true

end Sys2Proof
end

