-- ==== Sys2Proof/Decode.lean ====
section
/-! DEFINITION. The command decoder and encoder (30_encoding.md rules R140 to R152): the rows of rule R150 as masks and
match values, a decoder that is total on 32-bit words, and the word of every command laid out by rule R141. -/

namespace Sys2Proof

/-- One row of rule R150: a word `w` has the row's form exactly when `w &&& mask = bits`. -/
structure Row where
  mask : Word
  bits : Word
  deriving DecidableEq, Repr

def Row.nop : Row := ⟨0xFFFFFFFF#32, 0x00000000#32⟩
def Row.decode : Row := ⟨0xFFFFFFDF#32, 0x00000001#32⟩
def Row.encode : Row := ⟨0xFFFFFFBF#32, 0x00000002#32⟩
def Row.xform : Row := ⟨0xFFFFF87F#32, 0x00000003#32⟩
def Row.pipe : Row := ⟨0xFFFFF81F#32, 0x00000004#32⟩
def Row.build : Row := ⟨0xFFFFF81F#32, 0x00000005#32⟩
def Row.applyTri : Row := ⟨0xFFFFFFEF#32, 0x00000006#32⟩
def Row.applyNearest : Row := ⟨0xFFFFFFFF#32, 0x00000007#32⟩
def Row.applyMono : Row := ⟨0xFFFFE79F#32, 0x00000008#32⟩
def Row.lutLoad : Row := ⟨0xFFFFFFFF#32, 0x00000009#32⟩
def Row.lutStore : Row := ⟨0xFFFFFFFF#32, 0x0000000A#32⟩

/-- Rule R150's table, in the order of OP. -/
def rows : List Row :=
  [Row.nop, Row.decode, Row.encode, Row.xform, Row.pipe, Row.build, Row.applyTri, Row.applyNearest, Row.applyMono,
    Row.lutLoad, Row.lutStore]

/-- Whether a word has a row's form (rule R150). -/
def Row.hasForm (row : Row) (w : Word) : Bool := w &&& row.mask == row.bits

/-- The row a command belongs to. -/
def Instr.row : Instr → Row
  | .nop => Row.nop
  | .decode _ => Row.decode
  | .encode _ => Row.encode
  | .xform _ _ => Row.xform
  | .pipe _ _ _ _ => Row.pipe
  | .build _ _ _ _ => Row.build
  | .applyTri _ => Row.applyTri
  | .applyNearest => Row.applyNearest
  | .applyMono _ _ _ => Row.applyMono
  | .lutLoad => Row.lutLoad
  | .lutStore => Row.lutStore

/-- The bank a field bit names (rule R200). -/
def bankOf (b : Bool) : Bank := if b then .scale256 else .scale255

/-- Field OP, bits [3:0] (rule R142). -/
def opField (w : Word) : BitVec 4 := w.extractLsb' 0 4

/-- Field X, bit 4 (rule R143). -/
def xField (w : Word) : Bool := w.getLsbD 4

/-- Field DB, bit 5 (rule R144). -/
def dbField (w : Word) : Bank := bankOf (w.getLsbD 5)

/-- Field EB, bit 6 (rule R145). -/
def ebField (w : Word) : Bank := bankOf (w.getLsbD 6)

/-- Field CH, bits [9:7] (rule R147). -/
def chField (w : Word) : Chain := ⟨w.getLsbD 7, w.getLsbD 8, w.getLsbD 9⟩

/-- Field XS, bit 10 (rule R146). -/
def xsField (w : Word) : Bool := w.getLsbD 10

/-- Field MS, bits [12:11] (rule R148). -/
def msField (w : Word) : Mono :=
  match w.getLsbD 12, w.getLsbD 11 with
  | false, false => .red
  | false, true => .green
  | true, false => .blue
  | true, true => .luminance

/-- A command whose word has its row's form is legal unless it combines XS with CH (rule R151 clause (3)). -/
def ifWellFormed (i : Instr) : Option Instr := if i.wf then some i else none

/-- The decoder (rule R151): every 32-bit word is either exactly one legal command or illegal (`none`). -/
def decode (w : Word) : Option Instr :=
  if Row.nop.hasForm w then some .nop
  else if Row.decode.hasForm w then some (.decode (dbField w))
  else if Row.encode.hasForm w then some (.encode (ebField w))
  else if Row.xform.hasForm w then ifWellFormed (.xform (chField w) (xsField w))
  else if Row.pipe.hasForm w then ifWellFormed (.pipe (dbField w) (ebField w) (chField w) (xsField w))
  else if Row.build.hasForm w then ifWellFormed (.build (dbField w) (ebField w) (chField w) (xsField w))
  else if Row.applyTri.hasForm w then some (.applyTri (xField w))
  else if Row.applyNearest.hasForm w then some .applyNearest
  else if Row.applyMono.hasForm w then some (.applyMono (dbField w) (ebField w) (msField w))
  else if Row.lutLoad.hasForm w then some .lutLoad
  else if Row.lutStore.hasForm w then some .lutStore
  else none

/-- The instruction the decoder reads from an opcode-table row's bits. Every row has 32 bits, one word (rule R140). -/
def decodeTableWord (nbits w : Nat) : Option Instr := decode (BitVec.ofNat 32 (w % 2 ^ nbits))

/-- The bit of a bank field (rule R141). -/
def bankBit : Bank → BitVec 1
  | .scale255 => 0#1
  | .scale256 => 1#1

/-- The bits [9:7] of the chain enables (rule R147): M0 is the lowest. -/
def chainBits (ch : Chain) : BitVec 3 := BitVec.ofBool ch.m2 ++ BitVec.ofBool ch.m1 ++ BitVec.ofBool ch.m0

/-- The bits [12:11] of the mono select (rule R148). -/
def monoBits : Mono → BitVec 2
  | .red => 0#2
  | .green => 1#2
  | .blue => 2#2
  | .luminance => 3#2

/-- The CMD format (rule R141), from bit 31 down: 19 zero bits, MS, XS, CH, EB, DB, X, OP. -/
def commandWord (op : BitVec 4) (x : Bool) (db eb : Bank) (ch : Chain) (xs : Bool) (ms : Mono) : Word :=
  0#19 ++ monoBits ms ++ BitVec.ofBool xs ++ chainBits ch ++ bankBit eb ++ bankBit db ++ BitVec.ofBool x ++ op

/-- CH = 0: the identity chain (rule R147). -/
def Chain.none : Chain := ⟨false, false, false⟩

/-- The command word of a command: OP by rule R150, unused fields 0. -/
def encode : Instr → Word
  | .nop => commandWord 0#4 false .scale255 .scale255 Chain.none false .red
  | .decode db => commandWord 1#4 false db .scale255 Chain.none false .red
  | .encode eb => commandWord 2#4 false .scale255 eb Chain.none false .red
  | .xform ch xs => commandWord 3#4 false .scale255 .scale255 ch xs .red
  | .pipe db eb ch xs => commandWord 4#4 false db eb ch xs .red
  | .build db eb ch xs => commandWord 5#4 false db eb ch xs .red
  | .applyTri x => commandWord 6#4 x .scale255 .scale255 Chain.none false .red
  | .applyNearest => commandWord 7#4 false .scale255 .scale255 Chain.none false .red
  | .applyMono db eb ms => commandWord 8#4 false db eb Chain.none false ms
  | .lutLoad => commandWord 9#4 false .scale255 .scale255 Chain.none false .red
  | .lutStore => commandWord 10#4 false .scale255 .scale255 Chain.none false .red

end Sys2Proof
end

