-- ==== Sys2Proof/Machine/Pixel.lean ====
section
/-! DEFINITION. RGBA8 words (00_scope.md rule R16, 20_memory.md rule R103) and the little-endian bytes of a word
(rule R102). -/

namespace Sys2Proof.Machine

/-- `pack(r, g, b, a)` (rule R16): an RGBA8 word, red in the lowest byte. -/
def pack (r g b a : Byte) : Word := a ++ b ++ g ++ r

/-- Byte `k` of a word, byte 0 being bits [7:0] (rule R102). -/
def byteOf (w : Word) (k : Nat) : Byte := w.extractLsb' (8 * k) 8

/-- `R(w)` = w[7:0] (rule R16). -/
def red (w : Word) : Byte := byteOf w 0

/-- `G(w)` = w[15:8] (rule R16). -/
def green (w : Word) : Byte := byteOf w 1

/-- `B(w)` = w[23:16] (rule R16). -/
def blue (w : Word) : Byte := byteOf w 2

/-- `A(w)` = w[31:24] (rule R16). -/
def alpha (w : Word) : Byte := byteOf w 3

/-- The word made of four bytes, lowest address first (rule R102). -/
def wordOf (b0 b1 b2 b3 : Byte) : Word := b3 ++ b2 ++ b1 ++ b0

end Sys2Proof.Machine
end

