-- ==== Sys2Proof/Machine/Memory.lean ====
section
/-! DEFINITION. Sparse stores by key in one canonical form, system memory (20_memory.md rules R100 to R105) and the grid's
written cells (10_state.md rule R59) over them. -/

namespace Sys2Proof.Machine

/-- The value a list of pairs holds at a key: that of the first pair with the key. -/
def cellGet {α : Type} : List (Nat × α) → Nat → Option α
  | [], _ => none
  | (k, v) :: rest, a => if k = a then some v else cellGet rest a

/-- The list without the key `a`. -/
def cellErase {α : Type} (cells : List (Nat × α)) (a : Nat) : List (Nat × α) :=
  cells.filter fun p => p.1 != a

/-- A pair put before the first larger key. -/
def cellInsert {α : Type} : List (Nat × α) → Nat → α → List (Nat × α)
  | [], a, v => [(a, v)]
  | (k, u) :: rest, a, v => if a < k then (a, v) :: (k, u) :: rest else (k, u) :: cellInsert rest a v

/-- The list with the value `v` at key `a`, whatever it held there. -/
def cellSet {α : Type} (cells : List (Nat × α)) (a : Nat) (v : α) : List (Nat × α) :=
  cellInsert (cellErase cells a) a v

/-- The keys strictly rise. -/
abbrev rising {α : Type} (cells : List (Nat × α)) : Prop := cells.Pairwise fun p q => p.1 < q.1

/-- System memory: the bytes that differ from what an unlisted address reads as. -/
abbrev Memory := List Host.Cell

/-- DESIGN CHOICE (log entry 6, unsafe): the byte an unlisted address of system memory reads as. The spec gives system
memory no contents (rule R116). -/
def unlistedByte : Byte := 0#8

/-- The byte at an address (rule R100). -/
def Memory.byte (m : Memory) (a : Nat) : Byte := (cellGet m a).getD unlistedByte

/-- The memory with one byte stored; storing the unlisted value removes the entry. -/
def Memory.setByte (m : Memory) (a : Nat) (b : Byte) : Memory :=
  if b = unlistedByte then cellErase m a else cellSet m a b

/-- The little-endian word at a..a+3 (rule R102). -/
def Memory.word (m : Memory) (a : Nat) : Word := wordOf (m.byte a) (m.byte (a + 1)) (m.byte (a + 2)) (m.byte (a + 3))

/-- The memory with a word's four bytes stored at a..a+3 (rules R102 and R105). -/
def Memory.setWord (m : Memory) (a : Nat) (w : Word) : Memory :=
  (((m.setByte a (byteOf w 0)).setByte (a + 1) (byteOf w 1)).setByte (a + 2) (byteOf w 2)).setByte (a + 3) (byteOf w 3)

/-- The canonical form: addresses strictly rise and lie in the address space (rule R100), and no entry holds what an
unlisted address reads as. -/
abbrev Memory.wf (m : Memory) : Prop :=
  rising m ∧ ∀ p ∈ m, p.1 < Config.addresses ∧ p.2 ≠ unlistedByte

/-- The canonical form of the grid's written cells: cell numbers strictly rise and are below NCELL (rule R59). -/
abbrev gridWf (g : List (Nat × Word)) : Prop :=
  rising g ∧ ∀ p ∈ g, p.1 < Config.cells

end Sys2Proof.Machine
end

