-- ==== Sys2Proof/Machine/ResetTables.lean ====
section
/-! DEFINITION. What reset loads into the internal memories (70_reset_and_hazards.md rules R343 and R346 to R350) and
into the coefficient registers (rule R341). -/

namespace Sys2Proof.Machine

/-- A table of `n` words from its decimal listing. -/
def tableOf (n : Nat) (entries : List Nat) (h : entries.length = n) : Vector Word n :=
  ⟨⟨entries.map (BitVec.ofNat 32)⟩, by simp [h]⟩

def decodeTable255Part0 : List Nat := [
  0, 85, 391, 955, 1798, 2938, 4388, 6160, 8263, 10707, 13500, 16649, 20162, 24044, 28302, 32941,
  37966, 43383, 49196, 55410, 62029, 69058, 76500, 84359, 92640, 101344, 110477, 120042, 130041, 140478, 151356, 162677,
  174446, 186665, 199336, 212462, 226046, 240091, 254598, 269571, 285012, 300923, 317307, 334166, 351502, 369317, 387613, 406394,
  425659, 445413, 465656, 486391, 507620, 529345, 551566, 574288, 597510, 621235, 645466, 670202, 695447, 721202, 747469, 774249]

def decodeTable255Part1 : List Nat := [
  801544, 829356, 857686, 886535, 915906, 945800, 976219, 1007163, 1038635, 1070636, 1103167, 1136230, 1169826, 1203957, 1238624, 1273829,
  1309572, 1345856, 1382681, 1420049, 1457961, 1496419, 1535423, 1574976, 1615078, 1655730, 1696934, 1738692, 1781003, 1823870, 1867294, 1911276,
  1955817, 2000918, 2046581, 2092806, 2139595, 2186948, 2234868, 2283355, 2332410, 2382034, 2432229, 2482995, 2534333, 2586246, 2638733, 2691795,
  2745435, 2799652, 2854448, 2909824, 2965781, 3022320, 3079441, 3137147, 3195437, 3254313, 3313776, 3373826, 3434466, 3495695, 3557515, 3619926]

def decodeTable255Part2 : List Nat := [
  3682930, 3746527, 3810719, 3875505, 3940889, 4006869, 4073447, 4140624, 4208401, 4276778, 4345758, 4415339, 4485524, 4556313, 4627707, 4699707,
  4772314, 4845528, 4919351, 4993783, 5068825, 5144478, 5220742, 5297620, 5375110, 5453215, 5531935, 5611271, 5691223, 5771793, 5852981, 5934787,
  6017214, 6100261, 6183930, 6268220, 6353133, 6438670, 6524831, 6611618, 6699030, 6787069, 6875735, 6965029, 7054952, 7145505, 7236688, 7328502,
  7420948, 7514026, 7607737, 7702083, 7797062, 7892678, 7988929, 8085817, 8183342, 8281506, 8380308, 8479750, 8579832, 8680555, 8781919, 8883925]

def decodeTable255Part3 : List Nat := [
  8986575, 9089868, 9193805, 9298388, 9403615, 9509489, 9616010, 9723179, 9830995, 9939461, 10048576, 10158341, 10268757, 10379824, 10491543, 10603916,
  10716941, 10830620, 10944954, 11059943, 11175588, 11291890, 11408848, 11526464, 11644739, 11763672, 11883265, 12003518, 12124432, 12246007, 12368244, 12491144,
  12614706, 12738933, 12863823, 12989379, 13115600, 13242487, 13370041, 13498262, 13627151, 13756708, 13886934, 14017830, 14149396, 14281633, 14414541, 14548120,
  14682372, 14817297, 14952896, 15089168, 15226115, 15363738, 15502036, 15641010, 15780661, 15920990, 16061996, 16203681, 16346045, 16489088, 16632812, 16777216]

/-- The listing of DEC[0], the 255-scale decode table (rule R347). -/
def decodeTable255Entries : List Nat :=
  decodeTable255Part0 ++ decodeTable255Part1 ++ decodeTable255Part2 ++ decodeTable255Part3

/-- DEC[0], the 255-scale decode table after reset (rule R347). -/
def decodeTable255 : Vector Word 256 := tableOf 256 decodeTable255Entries (by decide +kernel)

def decodeTable256Part0 : List Nat := [
  0, 84, 388, 947, 1783, 2913, 4350, 6107, 8192, 10615, 13384, 16507, 19989, 23838, 28059, 32658,
  37641, 43011, 48774, 54935, 61498, 68466, 75844, 83636, 91845, 100475, 109530, 119012, 128926, 139273, 150058, 161283,
  172951, 185064, 197627, 210640, 224108, 238032, 252415, 267260, 282569, 298343, 314587, 331301, 348488, 366150, 384290, 402909,
  422010, 441594, 461664, 482221, 503268, 524806, 546837, 569364, 592387, 615909, 639932, 664456, 689485, 715019, 741061, 767611]

def decodeTable256Part1 : List Nat := [
  794672, 822245, 850332, 878935, 908054, 937691, 967849, 998528, 1029730, 1061457, 1093709, 1126488, 1159797, 1193635, 1228005, 1262908,
  1298345, 1334317, 1370826, 1407874, 1445461, 1483589, 1522259, 1561472, 1601230, 1641534, 1682385, 1723785, 1765734, 1808233, 1851285, 1894890,
  1939049, 1983763, 2029034, 2074863, 2121251, 2168198, 2215707, 2263778, 2312413, 2361611, 2411376, 2461707, 2512605, 2564072, 2616109, 2668717,
  2721897, 2775649, 2829975, 2884876, 2940354, 2996407, 3053039, 3110250, 3168040, 3226412, 3285365, 3344901, 3405020, 3465724, 3527014, 3588890]

def decodeTable256Part2 : List Nat := [
  3651354, 3714406, 3778047, 3842278, 3907101, 3972515, 4038523, 4105124, 4172320, 4240111, 4308499, 4377484, 4447067, 4517249, 4588031, 4659414,
  4731398, 4803984, 4877174, 4950968, 5025367, 5100371, 5175982, 5252200, 5329026, 5406462, 5484507, 5563162, 5642429, 5722308, 5802799, 5883905,
  5965625, 6047960, 6130911, 6214479, 6298664, 6383467, 6468890, 6554932, 6641595, 6728879, 6816785, 6905314, 6994466, 7084242, 7174643, 7265670,
  7357323, 7449603, 7542511, 7636048, 7730213, 7825009, 7920435, 8016492, 8113181, 8210503, 8308458, 8407048, 8506272, 8606131, 8706626, 8807758]

def decodeTable256Part3 : List Nat := [
  8909528, 9011935, 9114981, 9218667, 9322992, 9427959, 9533566, 9639816, 9746708, 9854244, 9962423, 10071247, 10180716, 10290831, 10401593, 10513002,
  10625058, 10737763, 10851116, 10965120, 11079773, 11195077, 11311033, 11427641, 11544901, 11662815, 11781383, 11900605, 12020482, 12141014, 12262203, 12384049,
  12506553, 12629714, 12753534, 12878013, 13003152, 13128951, 13255411, 13382533, 13510317, 13638763, 13767873, 13897647, 14028085, 14159188, 14290956, 14423390,
  14556491, 14690259, 14824695, 14959800, 15095573, 15232015, 15369127, 15506910, 15645364, 15784489, 15924287, 16064757, 16205900, 16347717, 16490209, 16633375]

/-- The listing of DEC[1], the 256-scale decode table (rule R348). -/
def decodeTable256Entries : List Nat :=
  decodeTable256Part0 ++ decodeTable256Part1 ++ decodeTable256Part2 ++ decodeTable256Part3

/-- DEC[1], the 256-scale decode table after reset (rule R348). -/
def decodeTable256 : Vector Word 256 := tableOf 256 decodeTable256Entries (by decide +kernel)

def encodeTable255Part0 : List Nat := [
  19, 208, 640, 1341, 2331, 3624, 5233, 7170, 9442, 12060, 15030, 18360, 22057, 26126, 30574, 35405,
  40626, 46240, 52253, 58669, 65493, 72728, 80378, 88447, 96939, 105858, 115206, 124987, 135205, 145862, 156961, 168506,
  180500, 192944, 205842, 219197, 233011, 247287, 262027, 277234, 292909, 309057, 325678, 342774, 360350, 378405, 396943, 415966,
  435476, 455474, 475963, 496944, 518421, 540394, 562865, 585837, 609310, 633288, 657771, 682762, 708261, 734272, 760795, 787833]

def encodeTable255Part1 : List Nat := [
  815386, 843456, 872046, 901156, 930788, 960944, 991626, 1022834, 1054570, 1086836, 1119632, 1152962, 1186825, 1221224, 1256160, 1291634,
  1327647, 1364201, 1401297, 1438937, 1477122, 1515853, 1555131, 1594958, 1635335, 1676264, 1717744, 1759779, 1802368, 1845513, 1889216, 1933477,
  1978298, 2023680, 2069623, 2116130, 2163201, 2210838, 2259041, 2307812, 2357151, 2407060, 2457541, 2508593, 2560218, 2612418, 2665193, 2718544,
  2772472, 2826978, 2882064, 2937730, 2993978, 3050808, 3108221, 3166219, 3224802, 3283971, 3343728, 3404073, 3465007, 3526531, 3588647, 3651354]

def encodeTable255Part2 : List Nat := [
  3714655, 3778549, 3843038, 3908123, 3973804, 4040083, 4106961, 4174438, 4242515, 4311193, 4380473, 4450357, 4520843, 4591935, 4663632, 4735935,
  4808845, 4882364, 4956491, 5031228, 5106575, 5182534, 5259105, 5336289, 5414087, 5492499, 5571527, 5651170, 5731431, 5812310, 5893807, 5975924,
  6058660, 6142018, 6225997, 6310599, 6395824, 6481673, 6568147, 6655246, 6742971, 6831324, 6920304, 7009913, 7100150, 7191018, 7282517, 7374646,
  7467408, 7560803, 7654831, 7749494, 7844791, 7940724, 8037294, 8134500, 8232345, 8330827, 8429949, 8529711, 8630113, 8731157, 8832842, 8935170]

def encodeTable255Part3 : List Nat := [
  9038142, 9141757, 9246016, 9350921, 9456472, 9562669, 9669514, 9777006, 9885147, 9993938, 10103378, 10213468, 10324209, 10435603, 10547648, 10660347,
  10773699, 10887706, 11002367, 11117684, 11233657, 11350287, 11467575, 11585520, 11704124, 11823387, 11943310, 12063893, 12185137, 12307043, 12429611, 12552842,
  12676737, 12801295, 12926518, 13052407, 13178961, 13306181, 13434069, 13562623, 13691846, 13821738, 13952299, 14083530, 14215431, 14348003, 14481247, 14615163,
  14749751, 14885013, 15020948, 15157558, 15294843, 15432803, 15571439, 15710752, 15850741, 15991409, 16132754, 16274779, 16417482, 16560866, 16704929]

/-- The listing of ENC[0], the 255-scale encode thresholds, entry k at place k - 1 (rule R349). -/
def encodeTable255Entries : List Nat :=
  encodeTable255Part0 ++ encodeTable255Part1 ++ encodeTable255Part2 ++ encodeTable255Part3

/-- ENC[0], the 255-scale encode thresholds, entry k at place k - 1 after reset (rule R349). -/
def encodeTable255 : Vector Word 255 := tableOf 255 encodeTable255Entries (by decide +kernel)

def encodeTable256Part0 : List Nat := [
  19, 207, 634, 1330, 2311, 3593, 5189, 7108, 9361, 11956, 14901, 18203, 21868, 25902, 30312, 35102,
  40277, 45844, 51805, 58166, 64931, 72104, 79689, 87689, 96108, 104950, 114218, 123916, 134046, 144611, 155616, 167062,
  178952, 191290, 204077, 217318, 231013, 245167, 259780, 274857, 290398, 306407, 322885, 339836, 357260, 375161, 393540, 412400,
  431742, 451569, 471882, 492684, 513976, 535761, 558039, 580814, 604086, 627858, 652132, 676908, 702189, 727977, 754273, 781078]

def encodeTable256Part1 : List Nat := [
  808395, 836225, 864569, 893430, 922808, 952706, 983124, 1014064, 1045528, 1077517, 1110033, 1143077, 1176650, 1210754, 1245390, 1280560,
  1316264, 1352505, 1389283, 1426600, 1464458, 1502857, 1541798, 1581284, 1621315, 1661892, 1703017, 1744691, 1786915, 1829691, 1873018, 1916900,
  1961337, 2006329, 2051879, 2097987, 2144655, 2191883, 2239673, 2288025, 2336942, 2386423, 2436471, 2487085, 2538268, 2590020, 2642342, 2695236,
  2748702, 2802741, 2857354, 2912543, 2968309, 3024652, 3081573, 3139073, 3197154, 3255816, 3315060, 3374888, 3435300, 3496296, 3557879, 3620049]

def encodeTable256Part2 : List Nat := [
  3682807, 3746153, 3810089, 3874616, 3939735, 4005445, 4071749, 4138648, 4206141, 4274231, 4342917, 4412201, 4482083, 4552565, 4623648, 4695331,
  4767616, 4840504, 4913996, 4988092, 5062793, 5138101, 5214015, 5290538, 5367668, 5445408, 5523758, 5602719, 5682292, 5762477, 5843276, 5924688,
  6006716, 6089359, 6172618, 6256495, 6340989, 6426102, 6511834, 6598187, 6685160, 6772755, 6860972, 6949812, 7039276, 7129365, 7220079, 7311419,
  7403385, 7495979, 7589202, 7683052, 7777533, 7872643, 7968385, 8064758, 8161764, 8259402, 8357674, 8456581, 8556122, 8656299, 8757113, 8858564]

def encodeTable256Part3 : List Nat := [
  8960652, 9063379, 9166745, 9270750, 9375396, 9480683, 9586611, 9693182, 9800396, 9908253, 10016755, 10125902, 10235694, 10346132, 10457217, 10568949,
  10681330, 10794359, 10908037, 11022366, 11137344, 11252974, 11369256, 11486190, 11603777, 11722018, 11840912, 11960462, 12080667, 12201527, 12323045, 12445219,
  12568051, 12691542, 12815691, 12940500, 13065969, 13192099, 13318890, 13446343, 13574458, 13703236, 13832677, 13962783, 14093553, 14224989, 14357090, 14489858,
  14623292, 14757394, 14892164, 15027603, 15163711, 15300488, 15437935, 15576054, 15714843, 15854305, 15994438, 16135245, 16276725, 16418879, 16561708]

/-- The listing of ENC[1], the 256-scale encode thresholds, entry k at place k - 1 (rule R350). -/
def encodeTable256Entries : List Nat :=
  encodeTable256Part0 ++ encodeTable256Part1 ++ encodeTable256Part2 ++ encodeTable256Part3

/-- ENC[1], the 256-scale encode thresholds, entry k at place k - 1 after reset (rule R350). -/
def encodeTable256 : Vector Word 255 := tableOf 255 encodeTable256Entries (by decide +kernel)

/-- RAMP after reset: the grey ramp pack(p, p, p, 255) (rule R343). -/
def greyRamp : Vector Word 256 :=
  ⟨⟨(List.range 256).map fun p => pack (BitVec.ofNat 8 p) (BitVec.ofNat 8 p) (BitVec.ofNat 8 p) 255#8⟩, by simp⟩

/-- The reset contents of M0, M1 and M2: the identity, 1.0 on the diagonal (10_state.md rule R53). -/
def identityMat : Mat :=
  ⟨⟨0x01000000#32, 0#32, 0#32⟩, ⟨0#32, 0x01000000#32, 0#32⟩, ⟨0#32, 0#32, 0x01000000#32⟩⟩

/-- The reset contents of LUMA: the D65 weights (10_state.md rule R54). -/
def lumaWeights : Lin := ⟨0x00366CF4#32, 0x00B71759#32, 0x00127BB3#32⟩

end Sys2Proof.Machine
end

