-- ==== Sys2Proof/Machine/State.lean ====
section
/-! DEFINITION. The state of the machine (10_state.md) as plain data, the reasons a step can stop, and the state after
reset (70_reset_and_hazards.md rules R341 to R346). INVENTORY.md lists every field with the rule that names it. -/

namespace Sys2Proof.Machine

/-- The engine's phase (rule R63). -/
inductive Phase where
  /-- IDLE: no command runs, STATUS.BUSY = 0. -/
  | idle
  /-- RUN: a command runs, STATUS.BUSY = 1, and the element PROGRESS is under way. `latched` holds the words already
  read for that element, in order, and `written` how many of its output words have been written (rule R186, log
  entry 1). -/
  | run (latched : List Word) (written : Nat)
  deriving DecidableEq, Repr

/-- What happens next at the block's boundary (rules R170, R119 and R340; log entry 2). -/
inductive Input where
  /-- The engine takes its next step. -/
  | engine
  /-- A host reads the 32-bit register at an offset of the window (rule R171). -/
  | hostRead (off : BitVec 12)
  /-- A host writes the 32-bit register at an offset of the window (rule R178). -/
  | hostWrite (off : BitVec 12) (w : Word)
  /-- A host or another bus master reads word number `word` of system memory, at byte address 4 * word (R119). -/
  | memRead (word : BitVec 30)
  /-- A host or another bus master writes word number `word` of system memory (R119). -/
  | memWrite (word : BitVec 30) (w : Word)
  /-- The platform asserts reset (rule R340). -/
  | reset
  deriving DecidableEq, Repr

/-- The whole machine: the block (rule R30), system memory beside it, and the model's own fields `noResponse`, `inputs`,
`readData` and `resets`. -/
structure State where
  /-- CTRL.IE_DONE (rule R34). -/
  ieDone : Bool
  /-- CTRL.IE_ERR (rule R35). -/
  ieErr : Bool
  /-- CTRL.GVALID (rule R36). -/
  gvalid : Bool
  /-- The engine phase (rule R63); STATUS.BUSY is 1 exactly when it is RUN (rule R38). -/
  phase : Phase
  /-- STATUS.DONE (rule R39). -/
  done : Bool
  /-- STATUS.ERR (rule R40). -/
  err : Bool
  /-- STATUS.OVR (rule R41). -/
  ovr : Bool
  /-- STATUS.ERRCODE (rule R42). -/
  errCode : BitVec 4
  /-- CMD (rule R44). -/
  cmd : Word
  /-- SRC (rule R45). -/
  src : Word
  /-- DST (rule R46). -/
  dst : Word
  /-- COUNT (rule R47). -/
  count : Word
  /-- PROGRESS (rule R48). -/
  progress : Word
  /-- ERRADDR (rule R49). -/
  errAddr : Word
  /-- TAB_SEL, the three bits kept (rule R50). -/
  tabSel : BitVec 3
  /-- TAB_IDX, the TIW = 15 bits kept (rule R51). -/
  tabIdx : BitVec 15
  /-- Coefficient matrix M0 (rule R53). -/
  m0 : Mat
  /-- Coefficient matrix M1 (rule R53). -/
  m1 : Mat
  /-- Coefficient matrix M2 (rule R53). -/
  m2 : Mat
  /-- The luminance weights LUMA (rule R54). -/
  luma : Lin
  /-- The cells of GRID written since reset (rule R59); an unlisted cell holds its draw. -/
  grid : List (Nat × Word)
  /-- The model's own: how many resets there have been; it picks the GRID_INIT draw (rule R342, log entry 5). -/
  resets : Nat
  /-- DEC[0] (rule R60). -/
  dec0 : Vector Word 256
  /-- DEC[1] (rule R60). -/
  dec1 : Vector Word 256
  /-- ENC[0], entry k at place k - 1 (rule R61). -/
  enc0 : Vector Word 255
  /-- ENC[1], entry k at place k - 1 (rule R61). -/
  enc1 : Vector Word 255
  /-- RAMP (rule R57). -/
  ramp : Vector Word 256
  /-- System memory (rule R100). -/
  mem : Memory
  /-- The model's own: the word addresses at which the parameter BUS_OK (rule R13) is false; no step changes it (log
  entry 3). -/
  noResponse : List Word
  /-- The model's own: what happens next, in order (log entry 2). -/
  inputs : List Input
  /-- The model's own: the value the last host read returned (log entry 10). -/
  readData : Word
  deriving DecidableEq, Repr

/-- Why the machine stops. Every fault is safe: it stands only where no rule says what the engine does, and no state a
run can reach raises one (log entry 9). -/
inductive Fault where
  /-- Raised by the memory master port for an access at or above 2^32, which rule R112 rules out (safe). -/
  | accessBeyondMemory
  /-- Raised by the memory master port for an access at no multiple of 4, which rule R110 rules out (safe). -/
  | misalignedAccess
  /-- Raised by the engine for an element index at or past the command's element count, which rule R187 rules out
  (safe). -/
  | noSuchElement
  /-- Raised by the engine in phase RUN when CMD holds no legal command, which rule R181 rules out (safe). -/
  | noRunningCommand
  deriving DecidableEq, Repr

/-- What the model has no step for. -/
inductive Refusal where
  /-- An instruction without a meaning; no arm of `exec` answers it (safe). -/
  | notModelled (mnemonic : String)
  /-- Raised by a host read or write at an offset that is no multiple of 4: "a model refuses such an access" (rule R125,
  93_implementation_defined.md entry I4; safe, log entry 8). -/
  | misalignedHostAccess (off : BitVec 12)
  deriving DecidableEq, Repr

/-- The block after a reset (rules R341 to R346), with system memory, the bus and the inputs to come as given. `resets`
is the number of this reset. -/
def State.afterReset (mem : Memory) (noResponse : List Word) (inputs : List Input) (resets : Nat) : State where
  ieDone := false
  ieErr := false
  gvalid := false
  phase := .idle
  done := false
  err := false
  ovr := false
  errCode := 0#4
  cmd := 0#32
  src := 0#32
  dst := 0#32
  count := 0#32
  progress := 0#32
  errAddr := 0#32
  tabSel := 0#3
  tabIdx := 0#15
  m0 := identityMat
  m1 := identityMat
  m2 := identityMat
  luma := lumaWeights
  grid := []
  resets := resets
  dec0 := decodeTable255
  dec1 := decodeTable256
  enc0 := encodeTable255
  enc1 := encodeTable256
  ramp := greyRamp
  mem := mem
  noResponse := noResponse
  inputs := inputs
  readData := 0#32

/-- The machine right after reset: idle, waiting for a host write to CMD (rule R344). The spec fixes the block's
registers and memories; memory without entries, every address responding, no input waiting and reset number 0 are the
model's choices (log entries 2, 3, 5, 6 and 10). -/
def State.reset : State := State.afterReset [] [] [] 0

end Sys2Proof.Machine
end

