-- ==== Sys2Proof/Machine/Flags.lean ====
section
/-! DEFINITION. The status flags and the words the host reads them in (10_state.md rules R34 to R43), and the interrupt
line (60_exceptions.md rule R310). -/

namespace Sys2Proof.Machine

/-- STATUS.BUSY: 1 exactly when the engine phase is RUN (rules R38 and R63). -/
def State.busy (s : State) : Bool :=
  match s.phase with
  | .idle => false
  | .run _ _ => true

/-- The CTRL word: IE_DONE, IE_ERR, GVALID in bits 0 to 2, bits [31:3] zero (rules R34 to R37). -/
def State.ctrlWord (s : State) : Word :=
  0#29 ++ BitVec.ofBool s.gvalid ++ BitVec.ofBool s.ieErr ++ BitVec.ofBool s.ieDone

/-- The STATUS word: BUSY, DONE, ERR, OVR in bits 0 to 3, ERRCODE in [7:4], bits [31:8] zero (rules R38 to R43). -/
def State.statusWord (s : State) : Word :=
  0#24 ++ s.errCode ++ BitVec.ofBool s.ovr ++ BitVec.ofBool s.err ++ BitVec.ofBool s.done ++ BitVec.ofBool s.busy

/-- The level-sensitive interrupt output IRQ (rule R310). -/
def State.irq (s : State) : Bool := (s.done && s.ieDone) || (s.err && s.ieErr)

/-- A host write of `w` to CTRL (rule R173): the enables at any time, GVALID only while idle. -/
def State.writeCtrl (s : State) (w : Word) : State :=
  { s with
    ieDone := w.getLsbD 0
    ieErr := w.getLsbD 1
    gvalid := if s.busy then s.gvalid else w.getLsbD 2 }

/-- A host write of `w` to STATUS (rule R174): ones clear DONE, ERR with ERRCODE, and OVR. This is how the host takes
back an error report; there is no return operation (60_exceptions.md rule R321). -/
def State.writeStatus (s : State) (w : Word) : State :=
  { s with
    done := s.done && !w.getLsbD 1
    err := s.err && !w.getLsbD 2
    errCode := if w.getLsbD 2 then 0#4 else s.errCode
    ovr := s.ovr && !w.getLsbD 3 }

end Sys2Proof.Machine
end

