-- ==== Sys2Proof/Machine/Operands.lean ====
section
/-! DEFINITION. The operands of a command (30_encoding.md rules R153 and R154): element formats, buffers and element
counts, the conditions a command's operands must meet (20_memory.md rules R110 to R113), and what an engine run needs to
know of a command. -/

namespace Sys2Proof.Machine

/-- An element's format in system memory (20_memory.md rules R103 and R106). -/
inductive Elem where
  | rgba8
  | lin
  deriving DecidableEq, Repr

/-- The element size in bytes (rules R103 and R106). -/
def Elem.size : Elem → Nat
  | .rgba8 => 4
  | .lin => 16

/-- How many words are read for an element: the pad of a LIN element is not read (rules R107 and R109). -/
def Elem.reads : Elem → Nat
  | .rgba8 => 1
  | .lin => 3

/-- How many words are written for an element: the pad of a LIN element is written (rules R108 and R109). -/
def Elem.writes : Elem → Nat
  | .rgba8 => 1
  | .lin => 4

/-- How many elements a command has (rule R154). -/
inductive Elements where
  /-- None (NOP). -/
  | none
  /-- As many as COUNT says (the stream commands). -/
  | count
  /-- One per grid cell (BUILD, LUT_LOAD, LUT_STORE). -/
  | cells
  deriving DecidableEq, Repr

/-- What the engine needs to know of a command: its word, its operands by rule R154, which validation steps it has (rule
R181), whether it fills the grid (rule R182), and what one element gives: the words it writes to memory, or the grid
cell it writes, as functions of the state, the element index and the words read for the element. -/
structure Command where
  word : Word
  legal : Bool
  input : Option Elem := none
  output : Option Elem := none
  elements : Elements
  needsGrid : Bool := false
  needsImage : Bool := false
  fillsGrid : Bool := false
  outWords : State → Nat → List Word → List Word := fun _ _ _ => []
  cell : State → Nat → List Word → Nat × Word := fun _ _ _ => (0, 0#32)

/-- The reads of one element of a command. -/
def Command.reads (c : Command) : Nat :=
  match c.input with
  | none => 0
  | some el => el.reads

/-- The writes of one element of a command to system memory. -/
def Command.writes (c : Command) : Nat :=
  match c.output with
  | none => 0
  | some el => el.writes

/-- The number n of elements, from the operands as they stand (rule R154). -/
def Elements.number (e : Elements) (s : State) : Nat :=
  match e with
  | .none => 0
  | .count => s.count.toNat
  | .cells => Config.cells

/-- The byte address of word `k` of element `e` of a buffer (rules R107 to R109 and R112). -/
def elementAddress (base : Word) (el : Elem) (e k : Nat) : Nat := base.toNat + el.size * e + 4 * k

/-- The address of word `k` of element `e` of a command's input buffer. -/
def Command.inputAddress (c : Command) (s : State) (e k : Nat) : Nat :=
  match c.input with
  | none => 0
  | some el => elementAddress s.src el e k

/-- The address of word `k` of element `e` of a command's output buffer. -/
def Command.outputAddress (c : Command) (s : State) (e k : Nat) : Nat :=
  match c.output with
  | none => 0
  | some el => elementAddress s.dst el e k

/-- The end of a buffer of `n` elements, without wrap-around (rule R112). -/
def bufferEnd (base : Word) (el : Elem) (n : Nat) : Nat := base.toNat + el.size * n

/-- A buffer the command has is not based at a multiple of its element size (rule R110). -/
def misalignedBuffer (buf : Option Elem) (base : Word) : Bool :=
  match buf with
  | none => false
  | some el => base.toNat % el.size != 0

/-- A buffer the command has ends beyond the top of the address space (rule R112). -/
def beyondTop (buf : Option Elem) (base : Word) (n : Nat) : Bool :=
  match buf with
  | none => false
  | some el => decide (Config.addresses < bufferEnd base el n)

/-- Two non-empty buffers intersect other than exactly in place (rule R113). -/
def badOverlap (input output : Option Elem) (src dst : Word) (n : Nat) : Bool :=
  match input, output with
  | some si, some di =>
    decide (0 < n) && !(src == dst && si == di) &&
      decide (src.toNat < bufferEnd dst di n) && decide (dst.toNat < bufferEnd src si n)
  | _, _ => false

/-- COUNT = {IMG_H, IMG_W}: the only dimensions LUT_LOAD and LUT_STORE accept (rules R47 and R181). -/
def imageDims : Word := BitVec.ofNat 16 Config.imageHeight ++ BitVec.ofNat 16 Config.imageWidth

/-- The errors a command can end with (60_exceptions.md rule R300). -/
inductive CmdError where
  /-- Rule R301. -/
  | illegal
  /-- Rule R302. -/
  | noGrid
  /-- Rule R303. -/
  | dim
  /-- Rule R304. -/
  | align
  /-- Rule R305. -/
  | range
  /-- Rule R306. -/
  | overlap
  /-- Rule R307. -/
  | busError
  deriving DecidableEq, Repr

/-- The code of an error in STATUS.ERRCODE (rule R300). -/
def CmdError.code : CmdError → BitVec 4
  | .illegal => 1#4
  | .noGrid => 2#4
  | .dim => 3#4
  | .align => 4#4
  | .range => 5#4
  | .overlap => 6#4
  | .busError => 7#4

/-- Validation (rule R181): the first error that applies, in the fixed order, with the address it names (rule R300). -/
def Command.firstError (c : Command) (s : State) : Option (CmdError × Word) :=
  if !c.legal then some (.illegal, 0#32)
  else if c.needsGrid && !s.gvalid then some (.noGrid, 0#32)
  else if c.needsImage && s.count != imageDims then some (.dim, 0#32)
  else if misalignedBuffer c.input s.src then some (.align, s.src)
  else if misalignedBuffer c.output s.dst then some (.align, s.dst)
  else if beyondTop c.input s.src (c.elements.number s) then some (.range, s.src)
  else if beyondTop c.output s.dst (c.elements.number s) then some (.range, s.dst)
  else if badOverlap c.input c.output s.src s.dst (c.elements.number s) then some (.overlap, s.dst)
  else none

end Sys2Proof.Machine
end

