-- ==== Sys2Proof/Machine/Ops.lean ====
section
/-! DEFINITION. The named operations every command is made of: the memory master port (20_memory.md rules R104 and R105),
the grid (10_state.md rule R59), acceptance, error end and completion of a command (40_host_access.md rules R180 to R187,
60_exceptions.md rule R320), and the engine's step (rule R186). -/

namespace Sys2Proof.Machine

/-- The outcome of a step of this machine. -/
abbrev Result := Host.Outcome State Fault Refusal

/-- The reply of the memory master port. -/
inductive PortReply (α : Type) where
  /-- The access was performed. -/
  | ok (v : α)
  /-- An error response: nothing was performed (rules R104 and R105). -/
  | busError
  /-- The access is none the engine can make (log entry 9). -/
  | fault (f : Fault)
  deriving DecidableEq, Repr

/-- BUS_OK(addr) (rule R13): whether an access at a word address completes normally (log entry 3). -/
def State.busOk (s : State) (a : Nat) : Bool := !s.noResponse.contains (BitVec.ofNat 32 a)

/-- Whether an address is one of the memory master port's: below 2^32 and a multiple of 4 (rules R100 and R104). -/
def portFault (a : Nat) : Option Fault :=
  if Config.addresses ≤ a then some .accessBeyondMemory
  else if a % 4 ≠ 0 then some .misalignedAccess
  else none

/-- `MemRead(a, 4)` (rule R104). -/
def State.memRead (s : State) (a : Nat) : PortReply Word :=
  match portFault a with
  | some f => .fault f
  | none => if s.busOk a then .ok (s.mem.word a) else .busError

/-- `MemWrite(a, 4, w)` (rule R105). -/
def State.memWrite (s : State) (a : Nat) (w : Word) : PortReply State :=
  match portFault a with
  | some f => .fault f
  | none => if s.busOk a then .ok { s with mem := s.mem.setWord a w } else .busError

/-- GRID[n] (rule R59): the word written last, or the draw of the last reset (rule R342). -/
def State.gridAt (s : State) (n : Nat) : Word := (cellGet s.grid n).getD (Config.gridInit s.resets n)

/-- GRID[n] <- w (rule R59). -/
def State.setGrid (s : State) (n : Nat) (w : Word) : State := { s with grid := cellSet s.grid n w }

/-- Acceptance of a command word (rule R180): CMD holds it, DONE, ERR, ERRCODE, PROGRESS and ERRADDR are cleared, the
phase becomes RUN. OVR and CTRL stay. -/
def State.accept (s : State) (w : Word) : State :=
  { s with
    cmd := w
    done := false
    err := false
    errCode := 0#4
    progress := 0#32
    errAddr := 0#32
    phase := .run [] 0 }

/-- The error end of a command (60_exceptions.md rule R320), the block's one form of taking an exception: the code, the
address, ERR and DONE, and the phase IDLE, all in one step. Nothing else is saved. -/
def State.raise (s : State) (e : CmdError) (a : Word) : State :=
  { s with
    errCode := e.code
    errAddr := a
    err := true
    done := true
    phase := .idle }

/-- The acceptance of a word that is no legal command (rules R181 and R301): it ends at once with Illegal. -/
def State.acceptIllegal (s : State) (w : Word) : State := (s.accept w).raise .illegal 0#32

/-- Completion (rule R187): a command that fills the grid makes it valid; BUSY <- 0 and DONE <- 1. -/
def State.complete (s : State) (fillsGrid : Bool) : State :=
  { s with
    gvalid := fillsGrid || s.gvalid
    phase := .idle
    done := true }

/-- A validated command starts its elements (rule R182): a command that fills the grid clears GVALID, and a command with
no element ends at once. -/
def Command.start (c : Command) (s : State) : State :=
  let s1 := { s with gvalid := s.gvalid && !c.fillsGrid }
  if c.elements.number s = 0 then s1.complete c.fillsGrid else s1

/-- Acceptance and validation, one step (rules R180 to R182). -/
def Command.begin (c : Command) (s : State) : State :=
  let s1 := s.accept c.word
  match c.firstError s1 with
  | some (e, a) => s1.raise e a
  | none => c.start s1

/-- The end of element `e` (rule R186): its grid cell is written, PROGRESS counts it, and after the last element the
command completes (rule R187). -/
def Command.finishElement (c : Command) (s : State) (e : Nat) (latched : List Word) : State :=
  let s1 := if c.fillsGrid then s.setGrid (c.cell s e latched).1 (c.cell s e latched).2 else s
  let s2 := { s1 with progress := s.progress + 1#32, phase := .run [] 0 }
  if c.elements.number s ≤ e + 1 then s2.complete c.fillsGrid else s2

/-- The step that reads the next word of element `e` (rules R104, R107 and R109). In an element without writes the last
read ends the element (rule R186). -/
def Command.readStep (c : Command) (s : State) (e : Nat) (latched : List Word) : Result :=
  match s.memRead (c.inputAddress s e latched.length) with
  | .fault f => .fault f
  | .busError => .next (s.raise .busError (BitVec.ofNat 32 (c.inputAddress s e latched.length)))
  | .ok w =>
    if latched.length + 1 = c.reads ∧ c.writes = 0 then .next (c.finishElement s e (latched ++ [w]))
    else .next { s with phase := .run (latched ++ [w]) 0 }

/-- The step that writes output word number `written` of element `e` (rules R105, R108 and R109); the last write ends
the element (rule R186). -/
def Command.writeStep (c : Command) (s : State) (e : Nat) (latched : List Word) (written : Nat) : Result :=
  match s.memWrite (c.outputAddress s e written) ((c.outWords s e latched).getD written 0#32) with
  | .fault f => .fault f
  | .busError => .next (s.raise .busError (BitVec.ofNat 32 (c.outputAddress s e written)))
  | .ok s1 =>
    if written + 1 = c.writes then .next (c.finishElement s1 e latched)
    else .next { s1 with phase := .run latched (written + 1) }

/-- One engine step of a running command (rules R170 and R186): the next memory access of the element PROGRESS, reads
before writes (rule R114), or, for an element without accesses, the whole element. -/
def Command.engineStep (c : Command) (s : State) (latched : List Word) (written : Nat) : Result :=
  if c.elements.number s ≤ s.progress.toNat then .fault .noSuchElement
  else if latched.length < c.reads then c.readStep s s.progress.toNat latched
  else if written < c.writes then c.writeStep s s.progress.toNat latched written
  else .next (c.finishElement s s.progress.toNat latched)

/-- The next step of a command (log entry 17): while the engine is IDLE, its acceptance; while it RUNs, the engine's
next step of it. -/
def Command.step (c : Command) (s : State) : Result :=
  match s.phase with
  | .idle => .next (c.begin s)
  | .run latched written => c.engineStep s latched written

end Sys2Proof.Machine
end

