-- ==== Sys2Proof/Machine/Colour.lean ====
section
/-! DEFINITION. The colour primitives (41_colourspace.md rules R200 to R209): gamma lookup, fixed-point multiply-accumulate
and the transform chain. Values are Q7.24 words read as signed numbers (00_scope.md rule R10). -/

namespace Sys2Proof.Machine

/-- Entry `i` of a table. -/
def tableEntry {n : Nat} (t : Vector Word n) (i : Nat) : Word := t[i]?.getD 0#32

/-- DEC[b] (rule R60). -/
def State.decTable (s : State) : Bank → Vector Word 256
  | .scale255 => s.dec0
  | .scale256 => s.dec1

/-- ENC[b] (rule R61). -/
def State.encTable (s : State) : Bank → Vector Word 255
  | .scale255 => s.enc0
  | .scale256 => s.enc1

/-- The decode primitive (rule R201): a pure table lookup. -/
def State.dec (s : State) (b : Bank) (p : Byte) : Word := tableEntry (s.decTable b) p.toNat

/-- The number of thresholds not above a value, by signed comparison (rule R202). -/
def thresholdsNotAbove (t : Vector Word 255) (v : Word) : Nat :=
  t.toList.countP fun k => decide (k.toInt ≤ v.toInt)

/-- The encode primitive (rule R202). -/
def State.enc (s : State) (b : Bank) (v : Word) : Byte := BitVec.ofNat 8 (thresholdsNotAbove (s.encTable b) v)

/-- `a >> n` on an unbounded integer: the floor shift (00_scope.md rule R15). -/
def floorShift (a : Int) (n : Nat) : Int := a / 2 ^ n

/-- `sat32(v)` (rule R16): the value clamped to the signed 32-bit range, as a word. -/
def sat32 (v : Int) : Word := BitVec.ofInt 32 (min (max v (-2 ^ 31)) (2 ^ 31 - 1))

/-- The exact sum of the three products of a row and a colour (rule R208). -/
def dot (r x : Lin) : Int := r.c0.toInt * x.c0.toInt + r.c1.toInt * x.c1.toInt + r.c2.toInt * x.c2.toInt

/-- The multiply-accumulate primitive (rule R208): exact products and sum, rounded once half up, saturated. -/
def mac (r x : Lin) : Word := sat32 (floorShift (dot r x + 2 ^ (Config.frac - 1)) Config.frac)

/-- The matrix product (rule R208). -/
def matmul (m : Mat) (x : Lin) : Lin := ⟨mac m.r0 x, mac m.r1 x, mac m.r2 x⟩

/-- One stage of the chain: the matrix product where the stage is enabled (rule R209). -/
def stage (enabled : Bool) (m : Mat) (x : Lin) : Lin := if enabled then matmul m x else x

/-- The transform T of a command's fields CH and XS (rule R209): the external port, or M0, M1, M2 in that order. -/
def State.transform (s : State) (ch : Chain) (xs : Bool) (x : Lin) : Lin :=
  if xs then Config.xf x else stage ch.m2 s.m2 (stage ch.m1 s.m1 (stage ch.m0 s.m0 x))

/-- The decoded R, G and B bytes of an RGBA8 word; its alpha is ignored (rules R201 and R206). -/
def State.decodePixel (s : State) (b : Bank) (w : Word) : Lin :=
  ⟨s.dec b (red w), s.dec b (green w), s.dec b (blue w)⟩

/-- A linear colour encoded to RGBA8 with alpha 255 (rules R202 and R206). -/
def State.encodePixel (s : State) (b : Bank) (y : Lin) : Word :=
  pack (s.enc b y.c0) (s.enc b y.c1) (s.enc b y.c2) 255#8

/-- The RGBA8 element read for an element: its one word (20_memory.md rule R109). -/
def pixelRead (latched : List Word) : Word := latched.getD 0 0#32

/-- The LIN element read for an element: its three channel words (rule R107). -/
def linRead (latched : List Word) : Lin := ⟨latched.getD 0 0#32, latched.getD 1 0#32, latched.getD 2 0#32⟩

/-- The four words a LIN element is written as, the pad 0 (rule R108). -/
def linWords (y : Lin) : List Word := [y.c0, y.c1, y.c2, 0#32]

end Sys2Proof.Machine
end

