-- ==== Sys2Proof/Machine/ColourSpace.lean ====
section
/-! DEFINITION. The ColourSpace family (41_colourspace.md rules R210 to R214): NOP, DECODE, ENCODE, XFORM, PIPE. -/

namespace Sys2Proof.Machine

/-- NOP (rule R210): no buffers and no element. -/
def nopCommand : Command where
  word := encode .nop
  legal := Instr.nop.wf
  elements := .none

/-- DECODE (rule R211): each pixel becomes a LIN colour through DEC[DB]. -/
def decodeCommand (db : Bank) : Command where
  word := encode (.decode db)
  legal := (Instr.decode db).wf
  input := some .rgba8
  output := some .lin
  elements := .count
  outWords s _ latched := linWords (s.decodePixel db (pixelRead latched))

/-- ENCODE (rule R212): each LIN colour becomes a pixel through ENC[EB]. -/
def encodeCommand (eb : Bank) : Command where
  word := encode (.encode eb)
  legal := (Instr.encode eb).wf
  input := some .lin
  output := some .rgba8
  elements := .count
  outWords s _ latched := [s.encodePixel eb (linRead latched)]

/-- XFORM (rule R213): each LIN colour is transformed. -/
def xformCommand (ch : Chain) (xs : Bool) : Command where
  word := encode (.xform ch xs)
  legal := (Instr.xform ch xs).wf
  input := some .lin
  output := some .lin
  elements := .count
  outWords s _ latched := linWords (s.transform ch xs (linRead latched))

/-- PIPE (rule R214): each pixel is decoded, transformed and encoded. -/
def pipeCommand (db eb : Bank) (ch : Chain) (xs : Bool) : Command where
  word := encode (.pipe db eb ch xs)
  legal := (Instr.pipe db eb ch xs).wf
  input := some .rgba8
  output := some .rgba8
  elements := .count
  outWords s _ latched := [s.encodePixel eb (s.transform ch xs (s.decodePixel db (pixelRead latched)))]

/-- The next step of NOP. -/
def execNop (s : State) : Result := nopCommand.step s

/-- The next step of DECODE. -/
def execDecode (db : Bank) (s : State) : Result := (decodeCommand db).step s

/-- The next step of ENCODE. -/
def execEncode (eb : Bank) (s : State) : Result := (encodeCommand eb).step s

/-- The next step of XFORM. -/
def execXform (ch : Chain) (xs : Bool) (s : State) : Result := (xformCommand ch xs).step s

/-- The next step of PIPE. -/
def execPipe (db eb : Bank) (ch : Chain) (xs : Bool) (s : State) : Result := (pipeCommand db eb ch xs).step s

end Sys2Proof.Machine
end

