-- ==== Sys2Proof/Machine/LutEngine.lean ====
section
/-! DEFINITION. The LUT Engine family (42_lut_engine.md): BUILD (R250), APPLY_TRI (R256), APPLY_NEAREST (R265), APPLY_MONO
(R270), LUT_LOAD (R280) and LUT_STORE (R285), with the grid's numbering, the axis computation and the blend. -/

namespace Sys2Proof.Machine

/-- The flat number of grid cell (i, j, k): i the blue axis, j the green, k the red (rules R18 and R240). -/
def cellNumber (i j k : Nat) : Nat := i * Config.edge ^ 2 + j * Config.edge + k

/-- The sample value of a cell index along an axis: the centre of its bucket (rule R251). -/
def samplePoint (c : Nat) : Byte := BitVec.ofNat 8 (c * Config.scale + Config.offset)

/-- The pixel whose transform cell `n` holds (rules R250 and R251): red from k, green from j, blue from i. -/
def samplePixel (n : Nat) : Word :=
  pack (samplePoint (n &&& (Config.edge - 1))) (samplePoint ((n >>> Config.lutBits) &&& (Config.edge - 1)))
    (samplePoint (n >>> (2 * Config.lutBits))) 255#8

/-- The word BUILD computes for cell `n` (rule R250). -/
def State.buildCell (s : State) (db eb : Bank) (ch : Chain) (xs : Bool) (n : Nat) : Word :=
  s.encodePixel eb (s.transform ch xs (s.decodePixel db (samplePixel n)))

/-- The two grid indices and the weight of one axis (rule R255), before and after the boundary adjustments. -/
structure Axis where
  i0 : Int
  i1 : Int
  weight : Int
  deriving DecidableEq, Repr

/-- The unadjusted coordinates of a channel value (rule R255). -/
def axisRaw (p : Byte) : Axis :=
  let t := p.toNat + Config.half
  ⟨(t >>> Config.fracShift : Nat) - 1, (t >>> Config.fracShift : Nat), (t &&& (Config.ovf - 1) : Nat)⟩

/-- The adjustment at the low boundary (rule R255): i0 < 0. -/
def axisLow (x : Bool) (a : Axis) : Axis :=
  if a.i0 < 0 then
    if x then ⟨a.i0 + 1, a.i1 + 1, a.weight - Config.ovf⟩ else ⟨a.i0 + 1, a.i1, a.weight⟩
  else a

/-- The adjustment at the high boundary (rule R255): i1 >= N. -/
def axisHigh (x : Bool) (a : Axis) : Axis :=
  if (Config.edge : Int) ≤ a.i1 then
    if x then ⟨a.i0 - 1, a.i1 - 1, a.weight + Config.ovf⟩ else ⟨a.i0, a.i1 - 1, a.weight⟩
  else a

/-- `axis(p, X)` (rule R255). -/
def axis (p : Byte) (x : Bool) : Axis := axisHigh x (axisLow x (axisRaw p))

/-- The blend before the clamp (rule R257), an unbounded integer. -/
def blendRaw (a b : Byte) (weight : Int) : Int :=
  floorShift ((Config.ovf - weight) * a.toNat + weight * b.toNat) Config.fracShift

/-- `blend(a, b, s, X)` (rules R257 and R260): clamped to [0, 255] when extrapolating. -/
def blend (a b : Byte) (weight : Int) (x : Bool) : Byte :=
  BitVec.ofInt 8 (if x then min (max (blendRaw a b weight) 0) 255 else blendRaw a b weight)

/-- The grid word at the low corner (r0, g0, b0) of a pixel's axes (rule R256). -/
def State.lowCorner (s : State) (w : Word) (x : Bool) : Word :=
  s.gridAt (cellNumber (axis (blue w) x).i0.toNat (axis (green w) x).i0.toNat (axis (red w) x).i0.toNat)

/-- The grid word at the high corner (r1, g1, b1) of a pixel's axes (rule R256). -/
def State.highCorner (s : State) (w : Word) (x : Bool) : Word :=
  s.gridAt (cellNumber (axis (blue w) x).i1.toNat (axis (green w) x).i1.toNat (axis (red w) x).i1.toNat)

/-- The pixel APPLY_TRI computes (rules R256, R257 and R262): each channel blends the two corners with its own axis's
weight; alpha 255. -/
def State.triPixel (s : State) (x : Bool) (w : Word) : Word :=
  pack (blend (red (s.lowCorner w x)) (red (s.highCorner w x)) (axis (red w) x).weight x)
    (blend (green (s.lowCorner w x)) (green (s.highCorner w x)) (axis (green w) x).weight x)
    (blend (blue (s.lowCorner w x)) (blue (s.highCorner w x)) (axis (blue w) x).weight x) 255#8

/-- The R, G and B bytes of a word with alpha 255 (rules R206, R265 and R270). -/
def opaquePixel (c : Word) : Word := pack (red c) (green c) (blue c) 255#8

/-- The cell a pixel falls in: each channel truncated to the grid's bit width (rule R265). -/
def nearestCell (w : Word) : Nat :=
  cellNumber ((blue w).toNat >>> Config.fracShift) ((green w).toNat >>> Config.fracShift)
    ((red w).toNat >>> Config.fracShift)

/-- The pixel APPLY_NEAREST computes (rule R265). -/
def State.nearestPixel (s : State) (w : Word) : Word := opaquePixel (s.gridAt (nearestCell w))

/-- The ramp index of APPLY_MONO (rules R270 and R271). -/
def State.rampIndex (s : State) (db eb : Bank) (ms : Mono) (w : Word) : Byte :=
  match ms with
  | .red => red w
  | .green => green w
  | .blue => blue w
  | .luminance => s.enc eb (mac s.luma (s.decodePixel db w))

/-- The pixel APPLY_MONO computes (rule R270). -/
def State.monoPixel (s : State) (db eb : Bank) (ms : Mono) (w : Word) : Word :=
  opaquePixel (tableEntry s.ramp (s.rampIndex db eb ms w).toNat)

/-- The cell image word `m` of a LUT image holds (20_memory.md rule R126, rules R280 and R285). -/
def imageCell (m : Nat) : Nat :=
  cellNumber (m % Config.imageWidth / Config.edge) (m / Config.imageWidth) (m % Config.imageWidth % Config.edge)

/-- BUILD (rule R250): one cell per engine step, no memory access. -/
def buildCommand (db eb : Bank) (ch : Chain) (xs : Bool) : Command where
  word := encode (.build db eb ch xs)
  legal := (Instr.build db eb ch xs).wf
  elements := .cells
  fillsGrid := true
  cell s n _ := (n, s.buildCell db eb ch xs n)

/-- APPLY_TRI (rule R256). -/
def applyTriCommand (x : Bool) : Command where
  word := encode (.applyTri x)
  legal := (Instr.applyTri x).wf
  input := some .rgba8
  output := some .rgba8
  elements := .count
  needsGrid := true
  outWords s _ latched := [s.triPixel x (pixelRead latched)]

/-- APPLY_NEAREST (rule R265). -/
def applyNearestCommand : Command where
  word := encode .applyNearest
  legal := Instr.applyNearest.wf
  input := some .rgba8
  output := some .rgba8
  elements := .count
  needsGrid := true
  outWords s _ latched := [s.nearestPixel (pixelRead latched)]

/-- APPLY_MONO (rule R270). -/
def applyMonoCommand (db eb : Bank) (ms : Mono) : Command where
  word := encode (.applyMono db eb ms)
  legal := (Instr.applyMono db eb ms).wf
  input := some .rgba8
  output := some .rgba8
  elements := .count
  outWords s _ latched := [s.monoPixel db eb ms (pixelRead latched)]

/-- LUT_LOAD (rule R280): one read per cell, the whole word kept. -/
def lutLoadCommand : Command where
  word := encode .lutLoad
  legal := Instr.lutLoad.wf
  input := some .rgba8
  elements := .cells
  needsImage := true
  fillsGrid := true
  cell _ m latched := (imageCell m, pixelRead latched)

/-- LUT_STORE (rule R285): one write per cell, the whole word kept. -/
def lutStoreCommand : Command where
  word := encode .lutStore
  legal := Instr.lutStore.wf
  output := some .rgba8
  elements := .cells
  needsImage := true
  outWords s m _ := [s.gridAt (imageCell m)]

/-- The next step of BUILD. -/
def execBuild (db eb : Bank) (ch : Chain) (xs : Bool) (s : State) : Result := (buildCommand db eb ch xs).step s

/-- The next step of APPLY_TRI. -/
def execApplyTri (x : Bool) (s : State) : Result := (applyTriCommand x).step s

/-- The next step of APPLY_NEAREST. -/
def execApplyNearest (s : State) : Result := applyNearestCommand.step s

/-- The next step of APPLY_MONO. -/
def execApplyMono (db eb : Bank) (ms : Mono) (s : State) : Result := (applyMonoCommand db eb ms).step s

/-- The next step of LUT_LOAD. -/
def execLutLoad (s : State) : Result := lutLoadCommand.step s

/-- The next step of LUT_STORE. -/
def execLutStore (s : State) : Result := lutStoreCommand.step s

end Sys2Proof.Machine
end

