-- ==== Sys2Proof/Machine/Dispatch.lean ====
section
/-! DEFINITION. The dispatch: one arm per command of spec/opcode_table.json. An arm's meaning is the next step of that
command: its acceptance while the engine is IDLE, the engine's next step of it while it RUNs (log entry 17). -/

namespace Sys2Proof.Machine

def exec (i : Instr) (s : State) : Host.Outcome State Fault Refusal :=
  match i with
  | .nop => Sys2Proof.Machine.execNop s
  | .decode db => Sys2Proof.Machine.execDecode db s
  | .encode eb => Sys2Proof.Machine.execEncode eb s
  | .xform ch xs => Sys2Proof.Machine.execXform ch xs s
  | .pipe db eb ch xs => Sys2Proof.Machine.execPipe db eb ch xs s
  | .build db eb ch xs => Sys2Proof.Machine.execBuild db eb ch xs s
  | .applyTri x => Sys2Proof.Machine.execApplyTri x s
  | .applyNearest => Sys2Proof.Machine.execApplyNearest s
  | .applyMono db eb ms => Sys2Proof.Machine.execApplyMono db eb ms s
  | .lutLoad => Sys2Proof.Machine.execLutLoad s
  | .lutStore => Sys2Proof.Machine.execLutStore s

end Sys2Proof.Machine
end

