-- ==== Sys2Proof/Machine/HostAccess.lean ====
section
/-! DEFINITION. The two host operations, the table port, and what the other inputs do (40_host_access.md rules R170 to
R182, 10_state.md rules R32 to R62). -/

namespace Sys2Proof.Machine

/-- The registers of the window (10_state.md rule R56). -/
inductive Reg where
  | id
  | param
  | ctrl
  | status
  | cmd
  | src
  | dst
  | count
  | progress
  | errAddr
  | tabSel
  | tabIdx
  | tabData
  /-- Mm[i][j] (rule R53). -/
  | coef (m i j : Fin 3)
  /-- LUMA[c] (rule R54). -/
  | luma (c : Fin 3)
  /-- A reserved offset (rule R55). -/
  | reserved
  deriving DecidableEq, Repr

/-- The register at a byte offset of the window (rules R53 to R56). -/
def regAt (off : BitVec 12) : Reg :=
  match off.toNat with
  | 0x000 => .id
  | 0x004 => .param
  | 0x008 => .ctrl
  | 0x00C => .status
  | 0x010 => .cmd
  | 0x014 => .src
  | 0x018 => .dst
  | 0x01C => .count
  | 0x020 => .progress
  | 0x024 => .errAddr
  | 0x028 => .tabSel
  | 0x02C => .tabIdx
  | 0x030 => .tabData
  | n =>
    if 0x040 ≤ n ∧ n < 0x0AC then
      .coef (Fin.ofNat 3 ((n - 0x040) / 36)) (Fin.ofNat 3 ((n - 0x040) / 12)) (Fin.ofNat 3 ((n - 0x040) / 4))
    else if 0x0AC ≤ n ∧ n < 0x0B8 then .luma (Fin.ofNat 3 ((n - 0x0AC) / 4))
    else .reserved

/-- The constant ID reads (rule R32): ASCII "CBL" and version 1. -/
def idWord : Word := 0x43424C01#32

/-- The constant PARAM reads (rule R33): B in bits [3:0], FRAC in bits [9:4]. -/
def paramWord : Word := 0#22 ++ BitVec.ofNat 6 Config.frac ++ BitVec.ofNat 4 Config.lutBits

/-- Channel `c` of a triple (rule R17). -/
def Lin.channel (x : Lin) : Fin 3 → Word
  | 0 => x.c0
  | 1 => x.c1
  | 2 => x.c2

/-- A triple with channel `c` replaced. -/
def Lin.withChannel (x : Lin) (c : Fin 3) (w : Word) : Lin :=
  match c with
  | 0 => { x with c0 := w }
  | 1 => { x with c1 := w }
  | 2 => { x with c2 := w }

/-- Row `i` of a matrix (rule R17). -/
def Mat.row (m : Mat) : Fin 3 → Lin
  | 0 => m.r0
  | 1 => m.r1
  | 2 => m.r2

/-- A matrix with coefficient (i, j) replaced. -/
def Mat.withCoef (m : Mat) (i j : Fin 3) (w : Word) : Mat :=
  match i with
  | 0 => { m with r0 := Lin.withChannel m.r0 j w }
  | 1 => { m with r1 := Lin.withChannel m.r1 j w }
  | 2 => { m with r2 := Lin.withChannel m.r2 j w }

/-- Matrix Mm (rule R53). -/
def State.mat (s : State) : Fin 3 → Mat
  | 0 => s.m0
  | 1 => s.m1
  | 2 => s.m2

/-- The state with coefficient Mm[i][j] replaced. -/
def State.withCoef (s : State) (m i j : Fin 3) (w : Word) : State :=
  match m with
  | 0 => { s with m0 := Mat.withCoef s.m0 i j w }
  | 1 => { s with m1 := Mat.withCoef s.m1 i j w }
  | 2 => { s with m2 := Mat.withCoef s.m2 i j w }

/-- Whether a TAB_IDX value is in the range of the memory TAB_SEL selects (rule R62). -/
def tableRange (sel : BitVec 3) (x : Nat) : Bool :=
  match sel.toNat with
  | 0 => decide (x < 256)
  | 1 => decide (x < 256)
  | 2 => decide (1 ≤ x) && decide (x < 256)
  | 3 => decide (1 ≤ x) && decide (x < 256)
  | 4 => decide (x < 256)
  | 5 => decide (x < Config.cells)
  | _ => false

/-- Entry `x` of the memory TAB_SEL selects, for `x` in its range (rules R50 and R52). -/
def State.tableWord (s : State) (sel : BitVec 3) (x : Nat) : Word :=
  match sel.toNat with
  | 0 => tableEntry s.dec0 x
  | 1 => tableEntry s.dec1 x
  | 2 => tableEntry s.enc0 (x - 1)
  | 3 => tableEntry s.enc1 (x - 1)
  | 4 => tableEntry s.ramp x
  | 5 => s.gridAt x
  | _ => 0#32

/-- The state with entry `x` of the memory TAB_SEL selects replaced, for `x` in its range (rules R52 and R177). -/
def State.setTableWord (s : State) (sel : BitVec 3) (x : Nat) (w : Word) : State :=
  match sel.toNat with
  | 0 => { s with dec0 := s.dec0.setIfInBounds x w }
  | 1 => { s with dec1 := s.dec1.setIfInBounds x w }
  | 2 => { s with enc0 := s.enc0.setIfInBounds (x - 1) w }
  | 3 => { s with enc1 := s.enc1.setIfInBounds (x - 1) w }
  | 4 => { s with ramp := s.ramp.setIfInBounds x w }
  | 5 => s.setGrid x w
  | _ => s

/-- TAB_IDX <- (TAB_IDX + 1) mod 2^TIW (rules R51, R176 and R177). -/
def State.advanceTable (s : State) : State := { s with tabIdx := s.tabIdx + 1#15 }

/-- The value a TAB_DATA read returns (rule R176). -/
def State.tabData (s : State) : Word :=
  if s.busy then 0#32
  else if tableRange s.tabSel s.tabIdx.toNat then s.tableWord s.tabSel s.tabIdx.toNat else 0#32

/-- A TAB_DATA write while idle (rule R177). -/
def State.writeTabData (s : State) (w : Word) : State :=
  (if tableRange s.tabSel s.tabIdx.toNat then s.setTableWord s.tabSel s.tabIdx.toNat w else s).advanceTable

/-- The value a register reads (rules R32 to R55 and R171). -/
def State.readReg (s : State) : Reg → Word
  | .id => idWord
  | .param => paramWord
  | .ctrl => s.ctrlWord
  | .status => s.statusWord
  | .cmd => s.cmd
  | .src => s.src
  | .dst => s.dst
  | .count => s.count
  | .progress => s.progress
  | .errAddr => s.errAddr
  | .tabSel => s.tabSel.setWidth 32
  | .tabIdx => s.tabIdx.setWidth 32
  | .tabData => s.tabData
  | .coef m i j => Lin.channel (Mat.row (s.mat m) i) j
  | .luma c => Lin.channel s.luma c
  | .reserved => 0#32

/-- The busy-locked registers (rule R175). -/
def Reg.busyLocked : Reg → Bool
  | .id => false
  | .param => false
  | .ctrl => false
  | .status => false
  | .cmd => true
  | .src => true
  | .dst => true
  | .count => true
  | .progress => false
  | .errAddr => false
  | .tabSel => true
  | .tabIdx => true
  | .tabData => true
  | .coef _ _ _ => true
  | .luma _ => true
  | .reserved => false

/-- A host write of a command word while idle (rules R180 and R181): a legal command is accepted by its meaning, any other
word ends at once with Illegal. -/
def startCommand (w : Word) (s : State) : Result :=
  match decode w with
  | some i => exec i s
  | none => .next (s.acceptIllegal w)

/-- A host write of `w` to a register (rule R178). -/
def writeReg (r : Reg) (w : Word) (s : State) : Result :=
  if s.busy && r.busyLocked then .next { s with ovr := true }
  else
    match r with
    | .id => .next s
    | .param => .next s
    | .ctrl => .next (s.writeCtrl w)
    | .status => .next (s.writeStatus w)
    | .cmd => startCommand w s
    | .src => .next { s with src := w }
    | .dst => .next { s with dst := w }
    | .count => .next { s with count := w }
    | .progress => .next s
    | .errAddr => .next s
    | .tabSel => .next { s with tabSel := w.setWidth 3 }
    | .tabIdx => .next { s with tabIdx := w.setWidth 15 }
    | .tabData => .next (s.writeTabData w)
    | .coef m i j => .next (s.withCoef m i j w)
    | .luma c => .next { s with luma := Lin.withChannel s.luma c w }
    | .reserved => .next s

/-- A host offset is a multiple of 4 (rule R125). -/
def wordOffset (off : BitVec 12) : Bool := off.toNat % 4 == 0

/-- A host read (rule R171): the value goes to the host, and an idle TAB_DATA read advances TAB_IDX (rule R176). -/
def hostRead (off : BitVec 12) (s : State) : Result :=
  if wordOffset off then
    let s1 := { s with readData := s.readReg (regAt off) }
    .next (if regAt off = .tabData ∧ s.busy = false then s1.advanceTable else s1)
  else .refused (.misalignedHostAccess off)

/-- A host write (rule R178). -/
def hostWrite (off : BitVec 12) (w : Word) (s : State) : Result :=
  if wordOffset off then writeReg (regAt off) w s else .refused (.misalignedHostAccess off)

/-- A turn of the engine (rules R170 and R186): in phase RUN the next step of the command in CMD; in phase IDLE the engine
performs no steps of its own (60_exceptions.md rule R335). -/
def engineTurn (s : State) : Result :=
  match s.phase with
  | .idle => .next s
  | .run _ _ =>
    match decode s.cmd with
    | some i => exec i s
    | none => .fault .noRunningCommand

/-- Reset (70_reset_and_hazards.md rule R340): the block's state takes its reset values; system memory, the bus and the
inputs to come stay. The grid takes the draw of a new reset (rule R342). -/
def State.resetBlock (s : State) : State := State.afterReset s.mem s.noResponse s.inputs (s.resets + 1)

/-- The byte address of a word of system memory. -/
def wordAddress (word : BitVec 30) : Nat := 4 * word.toNat

/-- What an input does (rules R170, R119 and R340). A read or write of system memory by another master is one atomic word
access (20_memory.md rule R111). -/
def takeInput (i : Input) (s : State) : Result :=
  match i with
  | .engine => engineTurn s
  | .hostRead off => hostRead off s
  | .hostWrite off w => hostWrite off w s
  | .memRead word => .next { s with readData := s.mem.word (wordAddress word) }
  | .memWrite word w => .next { s with mem := s.mem.setWord (wordAddress word) w }
  | .reset => .next s.resetBlock

end Sys2Proof.Machine
end

