-- ==== Sys2Proof/Machine/Step.lean ====
section
/-! DEFINITION. One step of the machine (40_host_access.md rule R170): the next input of the queue, or, when no input
waits, a turn of the engine (log entry 2). -/

namespace Sys2Proof.Machine

/-- One step: the oldest input is taken; with no input waiting the engine moves. -/
def step (s : State) : Host.Outcome State Fault Refusal :=
  match s.inputs with
  | [] => engineTurn s
  | i :: rest => takeInput i { s with inputs := rest }

/-- The state in which the very next step is a host write of the table word to CMD of an idle engine, which is how a
command comes to run (rule R180, log entry 2). -/
def State.withFetchWord (s : State) (nbits w : Nat) : State :=
  { s with
    phase := .idle
    inputs := .hostWrite 0x010#12 (BitVec.ofNat 32 (w % 2 ^ nbits)) :: s.inputs }

end Sys2Proof.Machine
end

