-- ==== Sys2Proof/Machine/Assembler.lean ====
section
/-! DEFINITION. The assembler's command syntax and pseudo-commands (30_encoding.md rules R156 and R157) and the host
program notation (rule R158), as abstract syntax. -/

namespace Sys2Proof.Machine

/-- The mnemonics of rule R156 and the pseudo-commands of rule R157. -/
inductive Mnemonic where
  | nop
  | decode
  | encode
  | xform
  | pipe
  | build
  | applyTri
  | applyNearest
  | applyMono
  | lutLoad
  | lutStore
  /-- `build.std` -/
  | buildStd
  /-- `pipe.std` -/
  | pipeStd
  /-- `apply` -/
  | apply
  /-- `apply.clamp` -/
  | applyClamp
  | luma
  /-- `to_lms` -/
  | toLms
  /-- `to_rgb` -/
  | toRgb
  deriving DecidableEq, Repr

/-- The options of rule R156. -/
inductive CmdOption where
  | x
  | db (b : Bank)
  | eb (b : Bank)
  | m0
  | m1
  | m2
  | xs
  | ms (m : Mono)
  deriving DecidableEq, Repr

/-- Two options give the same field. -/
def CmdOption.sameField : CmdOption → CmdOption → Bool
  | .x, .x => true
  | .db _, .db _ => true
  | .eb _, .eb _ => true
  | .m0, .m0 => true
  | .m1, .m1 => true
  | .m2, .m2 => true
  | .xs, .xs => true
  | .ms _, .ms _ => true
  | _, _ => false

/-- Whether an option is one of the transform options `m0 m1 m2 xs`. -/
def CmdOption.ofTransform : CmdOption → Bool
  | .x => false
  | .db _ => false
  | .eb _ => false
  | .m0 => true
  | .m1 => true
  | .m2 => true
  | .xs => true
  | .ms _ => false

/-- Whether an option gives the bank of the decode table. -/
def CmdOption.ofDecode : CmdOption → Bool
  | .db _ => true
  | _ => false

/-- Whether an option gives the bank of the encode table. -/
def CmdOption.ofEncode : CmdOption → Bool
  | .eb _ => true
  | _ => false

/-- Whether an option gives the mono select. -/
def CmdOption.ofMono : CmdOption → Bool
  | .ms _ => true
  | _ => false

/-- The options a mnemonic takes (rules R150, R156 and R157). -/
def Mnemonic.takes (m : Mnemonic) (o : CmdOption) : Bool :=
  match m with
  | .nop => false
  | .decode => o.ofDecode
  | .encode => o.ofEncode
  | .xform => o.ofTransform
  | .pipe => o.ofDecode || o.ofEncode || o.ofTransform
  | .build => o.ofDecode || o.ofEncode || o.ofTransform
  | .applyTri => o == .x
  | .applyNearest => false
  | .applyMono => o.ofDecode || o.ofEncode || o.ofMono
  | .lutLoad => false
  | .lutStore => false
  | .buildStd => o.ofTransform
  | .pipeStd => o.ofTransform
  | .apply => false
  | .applyClamp => false
  | .luma => false
  | .toLms => false
  | .toRgb => false

/-- The fields a list of options gives; an omitted option is 0 (rule R156). -/
structure CmdFields where
  x : Bool := false
  db : Bank := .scale255
  eb : Bank := .scale255
  ch : Chain := Chain.none
  xs : Bool := false
  ms : Mono := .red
  deriving DecidableEq, Repr

/-- The fields with one option applied. -/
def CmdFields.with (f : CmdFields) : CmdOption → CmdFields
  | .x => { f with x := true }
  | .db b => { f with db := b }
  | .eb b => { f with eb := b }
  | .m0 => { f with ch := { f.ch with m0 := true } }
  | .m1 => { f with ch := { f.ch with m1 := true } }
  | .m2 => { f with ch := { f.ch with m2 := true } }
  | .xs => { f with xs := true }
  | .ms m => { f with ms := m }

/-- The fields of an option list. -/
def fieldsOf (opts : List CmdOption) : CmdFields := opts.foldl CmdFields.with {}

/-- The command a mnemonic stands for, with given fields (rules R156 and R157). -/
def Mnemonic.command (m : Mnemonic) (f : CmdFields) : Instr :=
  match m with
  | .nop => .nop
  | .decode => .decode f.db
  | .encode => .encode f.eb
  | .xform => .xform f.ch f.xs
  | .pipe => .pipe f.db f.eb f.ch f.xs
  | .build => .build f.db f.eb f.ch f.xs
  | .applyTri => .applyTri f.x
  | .applyNearest => .applyNearest
  | .applyMono => .applyMono f.db f.eb f.ms
  | .lutLoad => .lutLoad
  | .lutStore => .lutStore
  | .buildStd => .build .scale256 .scale256 f.ch f.xs
  | .pipeStd => .pipe .scale255 .scale255 f.ch f.xs
  | .apply => .applyTri true
  | .applyClamp => .applyTri false
  | .luma => .applyMono .scale255 .scale255 .luminance
  | .toLms => .xform ⟨true, false, false⟩ false
  | .toRgb => .xform ⟨false, true, false⟩ false

/-- The options name each field at most once (DESIGN CHOICE, log entry 18: the spec does not say what a repeated option
means). -/
def eachFieldOnce : List CmdOption → Bool
  | [] => true
  | o :: rest => !rest.any o.sameField && eachFieldOnce rest

/-- The assembler (rules R156 and R157): the command word of a line, or none for a syntax error. A word it gives may still
be illegal to the block (XS with CH, rule R151). -/
def assemble (m : Mnemonic) (opts : List CmdOption) : Option Word :=
  if opts.all m.takes && eachFieldOnce opts then some (encode (m.command (fieldsOf opts))) else none

/-- The offset of a register (10_state.md rules R53, R54 and R56); for the reserved space, its first offset. -/
def Reg.offset : Reg → BitVec 12
  | .id => 0x000#12
  | .param => 0x004#12
  | .ctrl => 0x008#12
  | .status => 0x00C#12
  | .cmd => 0x010#12
  | .src => 0x014#12
  | .dst => 0x018#12
  | .count => 0x01C#12
  | .progress => 0x020#12
  | .errAddr => 0x024#12
  | .tabSel => 0x028#12
  | .tabIdx => 0x02C#12
  | .tabData => 0x030#12
  | .coef m i j => BitVec.ofNat 12 (0x040 + 0x24 * m.val + 4 * (3 * i.val + j.val))
  | .luma c => BitVec.ofNat 12 (0x0AC + 4 * c.val)
  | .reserved => 0x034#12

/-- `wr NAME, v` (rule R158). -/
def wr (r : Reg) (v : Word) : List Input := [.hostWrite r.offset v]

/-- `rd NAME` (rule R158). -/
def rd (r : Reg) : List Input := [.hostRead r.offset]

/-- `tab SEL, IDX, v0, v1, ...` (rule R158). -/
def tab (sel idx : Word) (vs : List Word) : List Input :=
  wr .tabSel sel ++ wr .tabIdx idx ++ vs.flatMap (wr .tabData)

/-- The nine writes of a matrix row by row. -/
def rowWrites (m i : Fin 3) (r : Lin) : List Input :=
  wr (.coef m i 0) r.c0 ++ wr (.coef m i 1) r.c1 ++ wr (.coef m i 2) r.c2

/-- `mat m, c00, ..., c22` (rule R158). -/
def matWrites (m : Fin 3) (c : Mat) : List Input := rowWrites m 0 c.r0 ++ rowWrites m 1 c.r1 ++ rowWrites m 2 c.r2

end Sys2Proof.Machine
end

