-- ==== Sys2Proof/Safety.lean ====
section
/-! DEFINITION. The terms claims are stated in: what acceptance, rejection and the end of an element leave, when operands
are good, the invariant of the machine, and what counts as a safe outcome. -/

namespace Sys2Proof.Machine

/-- The command record of a command: what the engine knows of it (30_encoding.md rule R154). -/
def commandOf : Instr → Command
  | .nop => nopCommand
  | .decode db => decodeCommand db
  | .encode eb => encodeCommand eb
  | .xform ch xs => xformCommand ch xs
  | .pipe db eb ch xs => pipeCommand db eb ch xs
  | .build db eb ch xs => buildCommand db eb ch xs
  | .applyTri x => applyTriCommand x
  | .applyNearest => applyNearestCommand
  | .applyMono db eb ms => applyMonoCommand db eb ms
  | .lutLoad => lutLoadCommand
  | .lutStore => lutStoreCommand

/-- The element formats of the seven stream commands (rule R154). -/
def streamFormats : Instr → Option (Elem × Elem)
  | .nop => none
  | .decode _ => some (.rgba8, .lin)
  | .encode _ => some (.lin, .rgba8)
  | .xform _ _ => some (.lin, .lin)
  | .pipe _ _ _ _ => some (.rgba8, .rgba8)
  | .build _ _ _ _ => none
  | .applyTri _ => some (.rgba8, .rgba8)
  | .applyNearest => some (.rgba8, .rgba8)
  | .applyMono _ _ _ => some (.rgba8, .rgba8)
  | .lutLoad => none
  | .lutStore => none

/-- The commands that sample the grid (rule R302). -/
def samplesGrid : Instr → Bool
  | .nop => false
  | .decode _ => false
  | .encode _ => false
  | .xform _ _ => false
  | .pipe _ _ _ _ => false
  | .build _ _ _ _ => false
  | .applyTri _ => true
  | .applyNearest => true
  | .applyMono _ _ _ => false
  | .lutLoad => false
  | .lutStore => false

/-- The pixel function of the commands from RGBA8 to RGBA8 (rules R214, R256, R265 and R270) in a state of the block. -/
def pixelFunction (s : State) : Instr → Option (Word → Word)
  | .nop => none
  | .decode _ => none
  | .encode _ => none
  | .xform _ _ => none
  | .pipe db eb ch xs => some fun w => s.encodePixel eb (s.transform ch xs (s.decodePixel db w))
  | .build _ _ _ _ => none
  | .applyTri x => some (s.triPixel x)
  | .applyNearest => some s.nearestPixel
  | .applyMono db eb ms => some (s.monoPixel db eb ms)
  | .lutLoad => none
  | .lutStore => none

/-- The buffers of a stream command of `n` elements are aligned, end at or below 2^32, and are empty, disjoint or exactly
in place (20_memory.md rules R110, R112 and R113). -/
def buffersGood (ss ds src dst n : Nat) : Prop :=
  src % ss = 0 ∧ dst % ds = 0 ∧ src + ss * n ≤ 2 ^ 32 ∧ dst + ds * n ≤ 2 ^ 32 ∧
    (n = 0 ∨ src + ss * n ≤ dst ∨ dst + ds * n ≤ src ∨ (src = dst ∧ ss = ds))

/-- An access at `a` is one the port performs: in the address space, a multiple of 4, and not answered by an error
(20_memory.md rules R100, R104 and R105). -/
def portGood (s : State) (a : Nat) : Prop := a < 2 ^ 32 ∧ a % 4 = 0 ∧ s.busOk a = true

/-- What the acceptance of a valid command with elements leaves (40_host_access.md rules R180 and R182). -/
def running (s : State) (w : Word) : State :=
  { s with
    cmd := w
    done := false
    err := false
    errCode := 0#4
    progress := 0#32
    errAddr := 0#32
    phase := .run [] 0 }

/-- What the acceptance of a valid command without elements leaves (rules R180, R182 and R187). -/
def doneAtOnce (s : State) (w : Word) : State :=
  { s with
    cmd := w
    done := true
    err := false
    errCode := 0#4
    progress := 0#32
    errAddr := 0#32
    phase := .idle }

/-- What the acceptance of a command that fails validation leaves (rules R180 and R320), for an error code and the address
it names (rule R300). -/
def rejected (s : State) (w : Word) (code : BitVec 4) (a : Word) : State :=
  { s with
    cmd := w
    done := true
    err := true
    errCode := code
    progress := 0#32
    errAddr := a
    phase := .idle }

/-- What a bus error at `a` leaves (rules R307 and R320): PROGRESS and everything else stays. -/
def busFailed (s : State) (a : Nat) : State :=
  { s with
    done := true
    err := true
    errCode := 7#4
    errAddr := BitVec.ofNat 32 a
    phase := .idle }

/-- What the end of an element of a command of `n` elements leaves besides its output (rules R186 and R187): PROGRESS
counts it; after the last one the command completes, and a command that fills the grid makes it valid. -/
def elementDone (s : State) (n : Nat) (fillsGrid : Bool) : State :=
  if s.progress.toNat + 1 < n then { s with progress := s.progress + 1#32, phase := .run [] 0 }
  else
    { s with
      progress := s.progress + 1#32
      phase := .idle
      done := true
      gvalid := fillsGrid || s.gvalid }

/-- `t` is `s` with one word of memory stored at `a`, seen byte by byte, and nothing else changed. -/
def storesWord (s t : State) (a : Nat) (w : Word) : Prop :=
  t = { s with mem := t.mem } ∧ t.mem.word a = w ∧ ∀ b, b < a ∨ a + 4 ≤ b → t.mem.byte b = s.mem.byte b

/-- `t` is `s` with one cell of the grid stored, seen cell by cell, and nothing else changed. -/
def storesCell (s t : State) (n : Nat) (w : Word) : Prop :=
  t = { s with grid := t.grid } ∧ t.gridAt n = w ∧ ∀ m, m ≠ n → t.gridAt m = s.gridAt m

/-- The error report is consistent: ERRCODE is nonzero exactly when ERR = 1 (10_state.md rule R42) and is never a reserved
code (93_implementation_defined.md entry I6). -/
def reportConsistent (s : State) : Prop := (s.err = true ↔ s.errCode ≠ 0#4) ∧ s.errCode.toNat ≤ 7

/-- A command is properly under way: it passed validation and its operands still do (rule R175), the element PROGRESS is
one of its elements, the accesses performed are a proper beginning of that element's, reads first (rule R114), the
report is clear (rule R180), and the grid is not valid while it is being filled (rule R182). -/
def underWay (c : Command) (s : State) (latched : List Word) (written : Nat) : Prop :=
  c.firstError s = none ∧ s.progress.toNat < c.elements.number s ∧ latched.length ≤ c.reads ∧
    (0 < written → latched.length = c.reads ∧ written < c.writes) ∧
    (latched.length = c.reads → c.writes = 0 → c.reads = 0) ∧
    s.done = false ∧ s.err = false ∧ s.errAddr = 0#32 ∧ (c.fillsGrid = true → s.gvalid = false)

/-- In phase RUN, CMD holds a legal command that is properly under way (10_state.md rule R63). -/
def engineConsistent (s : State) : Prop :=
  match s.phase with
  | .idle => True
  | .run latched written => ∃ i, decode s.cmd = some i ∧ underWay (commandOf i) s latched written

/-- The invariant of the machine: system memory and the grid's cells keep their canonical form, the error report is
consistent, and a running command is properly under way. -/
def Inv (s : State) : Prop := s.mem.wf ∧ gridWf s.grid ∧ reportConsistent s ∧ engineConsistent s

/-- A safe outcome: the machine does not stop with a fault. -/
def noFault (r : Result) : Prop := ∀ f, r ≠ .fault f

end Sys2Proof.Machine
end

