-- ==== Sys2Proof/Certificates/Slice0/Obligations.lean ====
section
/-! DEFINITION. The statements for the provers. Each says what a rule of spec/ says of the machine; a docstring names the
rules, and the model's own choices by their log entries. -/

open Sys2Proof Sys2Proof.Machine

/-! ## Encoding -/

/-- Decoding and encoding are inverse to each other on legal words and well-formed commands: no bit of a word is dropped,
and no other word stands for a command (rules R141 to R151). -/
def Obligations.WordsAndCommandsCorrespond : Prop :=
  ∀ (w : Word) (i : Instr), decode w = some i ↔ i.wf = true ∧ encode i = w

/-- Rules R151 and R301: which words are legal commands, and that writing any other word to CMD while idle ends at once
with Illegal, changing nothing but the report. The last clause says the same of a command term that combines XS with
CH. -/
def Obligations.LegalWordsAndIllegalError : Prop :=
  (∀ w : Word, (decode w).isSome = true ↔
    ∃ row, rows[(w.extractLsb' 0 4).toNat]? = some row ∧ w &&& row.mask = row.bits ∧
      (w.extractLsb' 0 4 ∈ [3#4, 4#4, 5#4] → ¬(w.getLsbD 10 = true ∧ w.extractLsb' 7 3 ≠ 0#3))) ∧
  (∀ (s : State) (w : Word) (rest : List Input), s.phase = .idle → s.inputs = .hostWrite 0x010#12 w :: rest →
    decode w = none → step s = .next (rejected { s with inputs := rest } w 1#4 0#32)) ∧
  ∀ (s : State) (i : Instr), s.phase = .idle → i.wf = false → exec i s = .next (rejected s (encode i) 1#4 0#32)

/-- Words written out from rule R141's layout and rule R156's examples decode to the commands they stand for. -/
def Obligations.PublishedWordsDecode : Prop :=
  decode 0x00000000#32 = some .nop ∧
  decode 0x00000021#32 = some (.decode .scale256) ∧
  decode 0x00000042#32 = some (.encode .scale256) ∧
  decode 0x00000403#32 = some (.xform Chain.none true) ∧
  decode 0x00000184#32 = some (.pipe .scale255 .scale255 ⟨true, true, false⟩ false) ∧
  decode 0x00000065#32 = some (.build .scale256 .scale256 Chain.none false) ∧
  decode 0x00000016#32 = some (.applyTri true) ∧
  decode 0x00000007#32 = some .applyNearest ∧
  decode 0x00001808#32 = some (.applyMono .scale255 .scale255 .luminance) ∧
  decode 0x00000009#32 = some .lutLoad ∧
  decode 0x0000000A#32 = some .lutStore ∧
  decode 0x00000483#32 = none ∧ decode 0x0000000B#32 = none ∧ decode 0x00002000#32 = none

/-- Rule R157: the pseudo-commands expand as its table says, with every list of transform options that the two `.std`
forms take; the repeated-option choice of log entry 18 is the same on both sides. -/
def Obligations.PseudoCommandsExpand : Prop :=
  (∀ opts : List CmdOption, opts.all CmdOption.ofTransform = true →
    assemble .buildStd opts = assemble .build (.db .scale256 :: .eb .scale256 :: opts) ∧
    assemble .pipeStd opts = assemble .pipe (.db .scale255 :: .eb .scale255 :: opts)) ∧
  assemble .buildStd [] = some 0x00000065#32 ∧
  assemble .pipeStd [] = some 0x00000004#32 ∧
  assemble .apply [] = assemble .applyTri [.x] ∧ assemble .apply [] = some 0x00000016#32 ∧
  assemble .applyClamp [] = assemble .applyTri [] ∧ assemble .applyClamp [] = some 0x00000006#32 ∧
  assemble .luma [] = assemble .applyMono [.ms .luminance, .db .scale255, .eb .scale255] ∧
  assemble .luma [] = some 0x00001808#32 ∧
  assemble .toLms [] = assemble .xform [.m0] ∧ assemble .toLms [] = some 0x00000083#32 ∧
  assemble .toRgb [] = assemble .xform [.m1] ∧ assemble .toRgb [] = some 0x00000103#32

/-! ## The step -/

/-- A step runs the decoded command: a host write of a legal word to CMD of an idle engine is `exec` of that command, and
an engine turn (named by the queue, or with no input waiting; log entry 2) is `exec` of the command CMD holds. -/
def Obligations.StepRunsDecodedCommand : Prop :=
  ∀ (s : State) (i : Instr),
    (∀ (w : Word) (rest : List Input), s.phase = .idle → s.inputs = .hostWrite 0x010#12 w :: rest →
      decode w = some i → step s = exec i { s with inputs := rest }) ∧
    (∀ (l : List Word) (k : Nat), s.phase = .run l k → decode s.cmd = some i →
      (s.inputs = [] → step s = exec i s) ∧
      ∀ rest, s.inputs = .engine :: rest → step s = exec i { s with inputs := rest })

/-- Rule R335: while BUSY = 0 the block performs no steps of its own and keeps all state. -/
def Obligations.IdleBlockKeepsState : Prop :=
  ∀ s : State, s.phase = .idle →
    (s.inputs = [] → step s = .next s) ∧
    ∀ rest, s.inputs = .engine :: rest → step s = .next { s with inputs := rest }

/-! ## Reset -/

/-- Rule R341: what every register reads after reset, the phase and the interrupt line, whatever memory, bus, inputs and
reset number stand beside the block. -/
def Obligations.ResetRegisterValues : Prop :=
  ∀ (mem : Memory) (bus : List Word) (ins : List Input) (n : Nat),
    let s := State.afterReset mem bus ins n
    s.readReg .id = 0x43424C01#32 ∧ s.readReg .param = 0x00000185#32 ∧ s.readReg .ctrl = 0#32 ∧
    s.readReg .status = 0#32 ∧ s.readReg .cmd = 0#32 ∧ s.readReg .src = 0#32 ∧ s.readReg .dst = 0#32 ∧
    s.readReg .count = 0#32 ∧ s.readReg .progress = 0#32 ∧ s.readReg .errAddr = 0#32 ∧
    s.readReg .tabSel = 0#32 ∧ s.readReg .tabIdx = 0#32 ∧
    (∀ m i j : Fin 3, s.readReg (.coef m i j) = if i = j then 0x01000000#32 else 0#32) ∧
    s.readReg (.luma 0) = 0x00366CF4#32 ∧ s.readReg (.luma 1) = 0x00B71759#32 ∧
    s.readReg (.luma 2) = 0x00127BB3#32 ∧ s.phase = .idle ∧ s.irq = false

/-- Rule R340: a reset input, at any time, sets the block's state to its reset values in one step and leaves system
memory as it is. That the bus, the inputs to come and the reset counter go on is the model's choice (log entries 2, 3
and 5). -/
def Obligations.ResetTakesOneStep : Prop :=
  ∀ (s : State) (rest : List Input), s.inputs = .reset :: rest →
    step s = .next (State.afterReset s.mem s.noResponse rest (s.resets + 1))

/-- Rule R343: RAMP after reset is the grey ramp, with which APPLY_MONO gives grey pixels of the selected value; and
(rule R342, log entry 5) every grid entry is the draw of that reset, with GVALID = 0. -/
def Obligations.ResetRampAndGrid : Prop :=
  ∀ (mem : Memory) (bus : List Word) (ins : List Input) (n : Nat),
    let s := State.afterReset mem bus ins n
    (∀ p : Byte, tableEntry s.ramp p.toNat = pack p p p 255#8) ∧
    (∀ (db eb : Bank) (ms : Mono) (w : Word),
      s.monoPixel db eb ms w =
        pack (s.rampIndex db eb ms w) (s.rampIndex db eb ms w) (s.rampIndex db eb ms w) 255#8) ∧
    (∀ m, s.gridAt m = Config.gridInit n m) ∧ s.gvalid = false

/-- Rule R346: the reset gamma tables are the power curve with exponent 2.2, rounded as the rule says, over the reals; all
entries are non-negative and below 2^31, both tables increase strictly, and they interleave. -/
def Obligations.ResetTablesArePowerCurve : Prop :=
  ∀ b : Bank,
    let scale : ℝ := match b with
      | .scale255 => 255
      | .scale256 => 256
    let dec : Nat → Int := fun p => (tableEntry (State.reset.decTable b) p).toInt
    let enc : Nat → Int := fun k => (tableEntry (State.reset.encTable b) (k - 1)).toInt
    (∀ p, p < 256 → dec p = ⌊((p : ℝ) / scale) ^ (2.2 : ℝ) * 2 ^ 24 + 1 / 2⌋ ∧ 0 ≤ dec p ∧ dec p < 2 ^ 31) ∧
    (∀ k, 1 ≤ k → k < 256 →
      enc k = ⌈(((k : ℝ) - 1 / 2) / scale) ^ (2.2 : ℝ) * 2 ^ 24⌉ ∧ 0 ≤ enc k ∧ enc k < 2 ^ 31) ∧
    (∀ p, p < 255 → dec p < dec (p + 1)) ∧ (∀ k, 1 ≤ k → k < 255 → enc k < enc (k + 1)) ∧
    ∀ k, 1 ≤ k → k < 256 → dec (k - 1) < enc k ∧ enc k ≤ dec k

/-! ## Host access -/

/-- The register map (rules R53, R54 and R56): every register is found at the offset the map gives it. -/
def Obligations.RegisterMapOffsets : Prop :=
  (regAt 0x000#12 = .id ∧ regAt 0x004#12 = .param ∧ regAt 0x008#12 = .ctrl ∧ regAt 0x00C#12 = .status ∧
    regAt 0x010#12 = .cmd ∧ regAt 0x014#12 = .src ∧ regAt 0x018#12 = .dst ∧ regAt 0x01C#12 = .count ∧
    regAt 0x020#12 = .progress ∧ regAt 0x024#12 = .errAddr ∧ regAt 0x028#12 = .tabSel ∧ regAt 0x02C#12 = .tabIdx ∧
    regAt 0x030#12 = .tabData) ∧
  (∀ m i j : Fin 3, regAt (BitVec.ofNat 12 (0x040 + 0x24 * m.val + 4 * (3 * i.val + j.val))) = .coef m i j) ∧
  (∀ c : Fin 3, regAt (BitVec.ofNat 12 (0x0AC + 4 * c.val)) = .luma c) ∧
  ∀ r : Reg, regAt r.offset = r

/-- Rules R55 and R172: a reserved offset reads 0, and a write to it or to ID, PARAM, PROGRESS or ERRADDR changes nothing
and does not set OVR, at any time. -/
def Obligations.ReservedAndReadOnlyOffsets : Prop :=
  ∀ (s : State) (rest : List Input) (off : BitVec 12), off.toNat % 4 = 0 →
    ((0x034 ≤ off.toNat ∧ off.toNat ≤ 0x03C) ∨ 0x0B8 ≤ off.toNat →
      (s.inputs = .hostRead off :: rest → step s = .next { s with inputs := rest, readData := 0#32 }) ∧
      ∀ w, s.inputs = .hostWrite off w :: rest → step s = .next { s with inputs := rest }) ∧
    (off = 0x000#12 ∨ off = 0x004#12 ∨ off = 0x020#12 ∨ off = 0x024#12 →
      ∀ w, s.inputs = .hostWrite off w :: rest → step s = .next { s with inputs := rest })

/-- Rule R171: a host read of a word offset returns the register's value and has no side effect but the TAB_IDX increment
of an idle TAB_DATA read; and what the registers read in every state: the constants ID and PARAM (rules R32 and R33), the
bits of CTRL (R34 to R37) and of STATUS (R38 to R43), the fields of the other registers (R44 to R55). What TAB_DATA reads
is the statement `TablePortRead`. -/
def Obligations.HostReadReturnsRegister : Prop :=
  (∀ (s : State) (off : BitVec 12) (rest : List Input), s.inputs = .hostRead off :: rest → off.toNat % 4 = 0 →
    step s = .next
      { s with
        inputs := rest
        readData := s.readReg (regAt off)
        tabIdx := if off = 0x030#12 ∧ s.phase = .idle then s.tabIdx + 1#15 else s.tabIdx }) ∧
  ∀ s : State,
    s.readReg .id = 0x43424C01#32 ∧ s.readReg .param = 0x00000185#32 ∧
    (∀ n, n < 32 → (s.readReg .ctrl).getLsbD n =
      if n = 0 then s.ieDone else if n = 1 then s.ieErr else if n = 2 then s.gvalid else false) ∧
    (∀ n, n < 32 → (s.readReg .status).getLsbD n =
      if n = 0 then decide (s.phase ≠ .idle)
      else if n = 1 then s.done
      else if n = 2 then s.err
      else if n = 3 then s.ovr
      else if n < 8 then s.errCode.getLsbD (n - 4)
      else false) ∧
    s.readReg .cmd = s.cmd ∧ s.readReg .src = s.src ∧ s.readReg .dst = s.dst ∧ s.readReg .count = s.count ∧
    s.readReg .progress = s.progress ∧ s.readReg .errAddr = s.errAddr ∧
    (s.readReg .tabSel).toNat = s.tabSel.toNat ∧ (s.readReg .tabIdx).toNat = s.tabIdx.toNat ∧
    (∀ m i j : Fin 3,
      let row := ![![s.m0.r0, s.m0.r1, s.m0.r2], ![s.m1.r0, s.m1.r1, s.m1.r2], ![s.m2.r0, s.m2.r1, s.m2.r2]] m i
      s.readReg (.coef m i j) = ![row.c0, row.c1, row.c2] j) ∧
    (∀ c : Fin 3, s.readReg (.luma c) = ![s.luma.c0, s.luma.c1, s.luma.c2] c) ∧
    s.readReg .reserved = 0#32

/-- Rule R173: a CTRL write sets the enables at any time and GVALID only while idle; it never sets OVR. -/
def Obligations.CtrlWriteSetsEnables : Prop :=
  ∀ (s : State) (w : Word) (rest : List Input), s.inputs = .hostWrite 0x008#12 w :: rest →
    step s = .next
      { s with
        inputs := rest
        ieDone := w.getLsbD 0
        ieErr := w.getLsbD 1
        gvalid := if s.phase = .idle then w.getLsbD 2 else s.gvalid }

/-- Rule R174: a STATUS write clears what its ones name; BUSY is not written. -/
def Obligations.StatusWriteClears : Prop :=
  ∀ (s : State) (w : Word) (rest : List Input), s.inputs = .hostWrite 0x00C#12 w :: rest →
    step s = .next
      { s with
        inputs := rest
        done := if w.getLsbD 1 then false else s.done
        err := if w.getLsbD 2 then false else s.err
        errCode := if w.getLsbD 2 then 0#4 else s.errCode
        ovr := if w.getLsbD 3 then false else s.ovr }

/-- Rule R309: while a command runs, a host write to a busy-locked register (the offsets of CMD to COUNT, TAB_SEL to
TAB_DATA, M0 to LUMA, rule R175) sets OVR and changes nothing else, nor the interrupt line. -/
def Obligations.BusyLockSetsOnlyOvr : Prop :=
  ∀ (s : State) (off : BitVec 12) (w : Word) (rest : List Input) (l : List Word) (k : Nat),
    s.phase = .run l k → s.inputs = .hostWrite off w :: rest → off.toNat % 4 = 0 →
    ((0x010 ≤ off.toNat ∧ off.toNat ≤ 0x01C) ∨ (0x028 ≤ off.toNat ∧ off.toNat ≤ 0x030) ∨
      (0x040 ≤ off.toNat ∧ off.toNat < 0x0B8)) →
    step s = .next { s with inputs := rest, ovr := true } ∧
      State.irq { s with inputs := rest, ovr := true } = s.irq

/-- The running command is not affected by an ignored write (rule R309): every step of it does the same whatever OVR
is. -/
def Obligations.RunningCommandIgnoresOvr : Prop :=
  ∀ (i : Instr) (s t : State) (l : List Word) (k : Nat) (b : Bool), s.phase = .run l k → exec i s = .next t →
    t.ovr = s.ovr ∧ exec i { s with ovr := b } = .next { t with ovr := b }

/-- While idle, a write to SRC, DST, COUNT, a coefficient or a luminance weight stores all 32 bits, a following read
returns them and every other register reads as before; a write to TAB_SEL or TAB_IDX keeps the low bits. In each case the
whole next state is given: the input taken, the one field or coefficient changed, and nothing else (rules R178, R50, R51
and R124). -/
def Obligations.IdleWriteReadsBack : Prop :=
  ∀ (s : State) (r : Reg) (w : Word) (rest : List Input), s.phase = .idle →
    s.inputs = .hostWrite r.offset w :: rest →
    (r = .src → step s = .next { s with inputs := rest, src := w }) ∧
    (r = .dst → step s = .next { s with inputs := rest, dst := w }) ∧
    (r = .count → step s = .next { s with inputs := rest, count := w }) ∧
    (∀ m i j, r = .coef m i j → ∃ t, step s = .next t ∧
      t = { s with inputs := rest, m0 := t.m0, m1 := t.m1, m2 := t.m2 } ∧
      ∀ m' i' j', t.readReg (.coef m' i' j') =
        if m' = m ∧ i' = i ∧ j' = j then w else s.readReg (.coef m' i' j')) ∧
    (∀ c, r = .luma c → ∃ t, step s = .next t ∧ t = { s with inputs := rest, luma := t.luma } ∧
      ∀ c', t.readReg (.luma c') = if c' = c then w else s.readReg (.luma c')) ∧
    (r = .tabSel → step s = .next { s with inputs := rest, tabSel := w.extractLsb' 0 3 }) ∧
    (r = .tabIdx → step s = .next { s with inputs := rest, tabIdx := w.extractLsb' 0 15 }) ∧
    (r = .src ∨ r = .dst ∨ r = .count ∨ (∃ m i j, r = .coef m i j) ∨ (∃ c, r = .luma c) →
      ∃ t, step s = .next t ∧ t.readReg r = w ∧ (∀ r', r' ≠ r → t.readReg r' = s.readReg r') ∧
        t.mem = s.mem ∧ t.grid = s.grid ∧ t.inputs = rest)

/-- Rules R176 and R62: what a TAB_DATA read returns, and that it advances TAB_IDX while idle only; and rule R176's
example after reset. -/
def Obligations.TablePortRead : Prop :=
  (∀ (s : State) (rest : List Input), s.inputs = .hostRead 0x030#12 :: rest →
    (∀ l k, s.phase = .run l k → step s = .next { s with inputs := rest, readData := 0#32 }) ∧
    (s.phase = .idle →
      let x := s.tabIdx.toNat
      let v : Word :=
        if s.tabSel = 0#3 ∧ x < 256 then tableEntry s.dec0 x
        else if s.tabSel = 1#3 ∧ x < 256 then tableEntry s.dec1 x
        else if s.tabSel = 2#3 ∧ 1 ≤ x ∧ x < 256 then tableEntry s.enc0 (x - 1)
        else if s.tabSel = 3#3 ∧ 1 ≤ x ∧ x < 256 then tableEntry s.enc1 (x - 1)
        else if s.tabSel = 4#3 ∧ x < 256 then tableEntry s.ramp x
        else if s.tabSel = 5#3 then s.gridAt x
        else 0#32
      step s = .next { s with inputs := rest, readData := v, tabIdx := s.tabIdx + 1#15 })) ∧
  ∀ (mem : Memory) (bus : List Word) (rest : List Input) (n : Nat),
    let s := State.afterReset mem bus rest n
    step { s with inputs := .hostRead 0x030#12 :: rest, tabSel := 1#3, tabIdx := 255#15 } =
      .next { s with readData := 16633375#32, tabSel := 1#3, tabIdx := 256#15 }

/-- Rule R177: an idle TAB_DATA write replaces exactly the entry TAB_IDX of the memory TAB_SEL selects, if that is in
range, advances TAB_IDX, and changes nothing else, GVALID included. -/
def Obligations.TablePortWrite : Prop :=
  ∀ (s : State) (w : Word) (rest : List Input), s.phase = .idle → s.inputs = .hostWrite 0x030#12 w :: rest →
    ∃ t, step s = .next t ∧
      (∀ (sel : BitVec 3) (x : Nat), tableRange sel x = true →
        t.tableWord sel x = if sel = s.tabSel ∧ x = s.tabIdx.toNat then w else s.tableWord sel x) ∧
      t =
        { s with
          inputs := rest
          tabIdx := s.tabIdx + 1#15
          dec0 := t.dec0
          dec1 := t.dec1
          enc0 := t.enc0
          enc1 := t.enc1
          ramp := t.ramp
          grid := t.grid }

/-- Rule R310: the interrupt line; the steps that assert it (one that sets DONE or ERR with its enable set, a CTRL write
that sets an enable) and that deassert it (a STATUS write that clears the bits, one alone or both, a CTRL write, an
acceptance), and that an engine step keeps it until the command ends. -/
def Obligations.InterruptLine : Prop :=
  (∀ s : State, s.irq = true ↔ (s.done = true ∧ s.ieDone = true) ∨ (s.err = true ∧ s.ieErr = true)) ∧
  (∀ s t : State, step s = .next t →
    (s.done = false → t.done = true → s.ieDone = true → t.irq = true) ∧
    (s.err = false → t.err = true → s.ieErr = true → t.irq = true)) ∧
  (∀ (s : State) (w : Word) (rest : List Input), s.phase = .idle → s.inputs = .hostWrite 0x010#12 w :: rest →
    ∃ t, step s = .next t ∧
      t.irq = if t.phase = .idle then s.ieDone || (t.err && s.ieErr) else false) ∧
  (∀ s t : State, s.phase ≠ .idle → (s.inputs = [] ∨ ∃ rest, s.inputs = .engine :: rest) → step s = .next t →
    t.irq = if t.phase = .idle then s.ieDone || (t.err && s.ieErr) else s.irq) ∧
  (∀ (s : State) (w : Word) (rest : List Input), s.inputs = .hostWrite 0x00C#12 w :: rest →
    ∃ t, step s = .next t ∧
      (w.getLsbD 1 = true → w.getLsbD 2 = true → t.irq = false) ∧
      (w.getLsbD 1 = true → w.getLsbD 2 = false → t.irq = (s.err && s.ieErr)) ∧
      (w.getLsbD 1 = false → w.getLsbD 2 = true → t.irq = (s.done && s.ieDone)) ∧
      (w.getLsbD 1 = false → w.getLsbD 2 = false → t.irq = s.irq)) ∧
  ∀ (s : State) (w : Word) (rest : List Input), s.inputs = .hostWrite 0x008#12 w :: rest →
    ∃ t, step s = .next t ∧ t.irq = ((s.done && w.getLsbD 0) || (s.err && w.getLsbD 1))

/-! ## Acceptance and validation -/

/-- Rule R210: NOP, accepted while idle, completes at once, whatever SRC, DST and COUNT hold. -/
def Obligations.NopCompletesAtOnce : Prop :=
  ∀ s : State, s.phase = .idle → exec .nop s = .next (doneAtOnce s 0#32)

/-- A well-formed stream command whose buffers are good, and with a valid grid if it samples it, starts: the report is
cleared, and with no element it completes at once (rules R180 to R182, R187, R110 to R113). -/
def Obligations.StreamCommandsStart : Prop :=
  ∀ (i : Instr) (si di : Elem) (s : State), streamFormats i = some (si, di) → i.wf = true → s.phase = .idle →
    (samplesGrid i = true → s.gvalid = true) →
    buffersGood si.size di.size s.src.toNat s.dst.toNat s.count.toNat →
    exec i s = .next (if s.count = 0#32 then doneAtOnce s (encode i) else running s (encode i))

/-- BUILD, LUT_LOAD and LUT_STORE start: the first two clear GVALID (rules R182, R250, R280 and R285). -/
def Obligations.GridCommandsStart : Prop :=
  ∀ s : State, s.phase = .idle →
    (∀ (db eb : Bank) (ch : Chain) (xs : Bool), transformLegal ch xs = true →
      exec (.build db eb ch xs) s = .next { running s (encode (.build db eb ch xs)) with gvalid := false }) ∧
    (s.count = 0x00200400#32 → s.src.toNat % 4 = 0 → s.src.toNat + 131072 ≤ 2 ^ 32 →
      exec .lutLoad s = .next { running s 0x00000009#32 with gvalid := false }) ∧
    (s.count = 0x00200400#32 → s.dst.toNat % 4 = 0 → s.dst.toNat + 131072 ≤ 2 ^ 32 →
      exec .lutStore s = .next (running s 0x0000000A#32))

/-- A sampler accepted while GVALID = 0 is rejected with NoGrid, code 2, before its operands are looked at (rules R302,
R300 and R312). -/
def Obligations.SamplersNeedGrid : Prop :=
  ∀ (i : Instr) (s : State), samplesGrid i = true → s.phase = .idle → s.gvalid = false →
    exec i s = .next (rejected s (encode i) 2#4 0#32)

/-- Rule R303: LUT_LOAD or LUT_STORE accepted with a COUNT other than IMG_W and IMG_H is rejected with Dim, code 3. -/
def Obligations.WrongImageSizeRejected : Prop :=
  ∀ (i : Instr) (s : State), i = .lutLoad ∨ i = .lutStore → s.phase = .idle →
    s.count.extractLsb' 0 16 ≠ 1024#16 ∨ s.count.extractLsb' 16 16 ≠ 32#16 →
    exec i s = .next (rejected s (encode i) 3#4 0#32)

/-- Rule R304: a misaligned base is rejected with Align, code 4, SRC before DST, ERRADDR being the first misaligned one;
even with COUNT = 0 (rule R110). -/
def Obligations.MisalignedBufferRejected : Prop :=
  (∀ (i : Instr) (si di : Elem) (s : State), streamFormats i = some (si, di) → i.wf = true → s.phase = .idle →
    (samplesGrid i = true → s.gvalid = true) →
    (s.src.toNat % si.size ≠ 0 → exec i s = .next (rejected s (encode i) 4#4 s.src)) ∧
    (s.src.toNat % si.size = 0 → s.dst.toNat % di.size ≠ 0 →
      exec i s = .next (rejected s (encode i) 4#4 s.dst))) ∧
  ∀ s : State, s.phase = .idle → s.count = 0x00200400#32 →
    (s.src.toNat % 4 ≠ 0 → exec .lutLoad s = .next (rejected s 0x00000009#32 4#4 s.src)) ∧
    (s.dst.toNat % 4 ≠ 0 → exec .lutStore s = .next (rejected s 0x0000000A#32 4#4 s.dst))

/-- Rule R305: an aligned buffer that extends beyond the top of the address space is rejected with Range, code 5, the
input buffer first, ERRADDR being that buffer's base. -/
def Obligations.BufferBeyondTopRejected : Prop :=
  (∀ (i : Instr) (si di : Elem) (s : State), streamFormats i = some (si, di) → i.wf = true → s.phase = .idle →
    (samplesGrid i = true → s.gvalid = true) → s.src.toNat % si.size = 0 → s.dst.toNat % di.size = 0 →
    (2 ^ 32 < s.src.toNat + si.size * s.count.toNat → exec i s = .next (rejected s (encode i) 5#4 s.src)) ∧
    (s.src.toNat + si.size * s.count.toNat ≤ 2 ^ 32 → 2 ^ 32 < s.dst.toNat + di.size * s.count.toNat →
      exec i s = .next (rejected s (encode i) 5#4 s.dst))) ∧
  ∀ s : State, s.phase = .idle → s.count = 0x00200400#32 →
    (s.src.toNat % 4 = 0 → 2 ^ 32 < s.src.toNat + 131072 →
      exec .lutLoad s = .next (rejected s 0x00000009#32 5#4 s.src)) ∧
    (s.dst.toNat % 4 = 0 → 2 ^ 32 < s.dst.toNat + 131072 →
      exec .lutStore s = .next (rejected s 0x0000000A#32 5#4 s.dst))

/-- Rule R306: two buffers that are aligned and in range but intersect other than exactly in place (rule R113) are
rejected with Overlap, code 6, ERRADDR being DST. -/
def Obligations.OverlappingBuffersRejected : Prop :=
  ∀ (i : Instr) (si di : Elem) (s : State), streamFormats i = some (si, di) → i.wf = true → s.phase = .idle →
    (samplesGrid i = true → s.gvalid = true) → s.src.toNat % si.size = 0 → s.dst.toNat % di.size = 0 →
    s.src.toNat + si.size * s.count.toNat ≤ 2 ^ 32 → s.dst.toNat + di.size * s.count.toNat ≤ 2 ^ 32 →
    ¬buffersGood si.size di.size s.src.toNat s.dst.toNat s.count.toNat →
    exec i s = .next (rejected s (encode i) 6#4 s.dst)

/-! ## Elements -/

/-- A read step of a running stream command latches the next word of the element PROGRESS (rules R104, R107, R109, R114
and R186), and changes nothing else. -/
def Obligations.StreamElementReads : Prop :=
  ∀ (i : Instr) (si di : Elem) (s : State) (l : List Word) (k : Nat), streamFormats i = some (si, di) →
    s.phase = .run l k → s.progress.toNat < s.count.toNat → l.length < si.reads →
    portGood s (s.src.toNat + si.size * s.progress.toNat + 4 * l.length) →
    exec i s = .next
      { s with
        phase := .run (l ++ [s.mem.word (s.src.toNat + si.size * s.progress.toNat + 4 * l.length)]) 0 }

/-- The four writes of a DECODE element (rules R211, R201 and R108): channel by channel the decoded R, G, B bytes, each the
entry of the bank's table DEC, then the pad 0; the last write ends the element. The bytes R, G and B of a pixel are its
bits [7:0], [15:8] and [23:16] (00_scope.md rule R16). -/
def Obligations.DecodeWritesLinearColour : Prop :=
  ∀ (db : Bank) (s : State),
    (∀ w : Word, red w = w.extractLsb' 0 8 ∧ green w = w.extractLsb' 8 8 ∧ blue w = w.extractLsb' 16 8) ∧
    (∀ p : Byte, s.dec db p =
      match db with
      | .scale255 => s.dec0[p.toNat]
      | .scale256 => s.dec1[p.toNat]) ∧
    ∀ (w : Word) (k : Nat), s.phase = .run [w] k → k < 4 →
      s.progress.toNat < s.count.toNat → portGood s (s.dst.toNat + 16 * s.progress.toNat + 4 * k) →
      ∃ t, storesWord s t (s.dst.toNat + 16 * s.progress.toNat + 4 * k)
          ([s.dec db (red w), s.dec db (green w), s.dec db (blue w), 0#32].getD k 0#32) ∧
        exec (.decode db) s = .next
          (if k < 3 then { t with phase := .run [w] (k + 1) } else elementDone t s.count.toNat false)

/-- The write of an ENCODE element (rules R212, R202 and R206), and where the channels of a packed pixel stand (00_scope.md
rule R16). -/
def Obligations.EncodeWritesPixel : Prop :=
  (∀ r g b a : Byte, pack r g b a = a ++ b ++ g ++ r) ∧
  ∀ (eb : Bank) (s : State) (x0 x1 x2 : Word), s.phase = .run [x0, x1, x2] 0 →
    s.progress.toNat < s.count.toNat → portGood s (s.dst.toNat + 4 * s.progress.toNat) →
    ∃ t, storesWord s t (s.dst.toNat + 4 * s.progress.toNat)
        (pack (s.enc eb x0) (s.enc eb x1) (s.enc eb x2) 255#8) ∧
      exec (.encode eb) s = .next (elementDone t s.count.toNat false)

/-- The four writes of an XFORM element (rules R213, R209 and R108). -/
def Obligations.XformWritesTransformedColour : Prop :=
  ∀ (ch : Chain) (xs : Bool) (s : State) (x0 x1 x2 : Word) (k : Nat), s.phase = .run [x0, x1, x2] k → k < 4 →
    s.progress.toNat < s.count.toNat → portGood s (s.dst.toNat + 16 * s.progress.toNat + 4 * k) →
    let y := s.transform ch xs ⟨x0, x1, x2⟩
    ∃ t, storesWord s t (s.dst.toNat + 16 * s.progress.toNat + 4 * k) ([y.c0, y.c1, y.c2, 0#32].getD k 0#32) ∧
      exec (.xform ch xs) s = .next
        (if k < 3 then { t with phase := .run [x0, x1, x2] (k + 1) } else elementDone t s.count.toNat false)

/-- The write of a PIPE element (rule R214): decode, transform, encode, alpha 255. -/
def Obligations.PipeWritesPixel : Prop :=
  ∀ (db eb : Bank) (ch : Chain) (xs : Bool) (s : State) (w : Word), s.phase = .run [w] 0 →
    s.progress.toNat < s.count.toNat → portGood s (s.dst.toNat + 4 * s.progress.toNat) →
    let y := s.transform ch xs ⟨s.dec db (red w), s.dec db (green w), s.dec db (blue w)⟩
    ∃ t, storesWord s t (s.dst.toNat + 4 * s.progress.toNat)
        (pack (s.enc eb y.c0) (s.enc eb y.c1) (s.enc eb y.c2) 255#8) ∧
      exec (.pipe db eb ch xs) s = .next (elementDone t s.count.toNat false)

/-- One cell of BUILD (rules R250 and R251): cell n = 1024 i + 32 j + k takes the transform of the sample point
(8k + 4, 8j + 4, 8i + 4); no memory access. -/
def Obligations.BuildFillsCell : Prop :=
  ∀ (db eb : Bank) (ch : Chain) (xs : Bool) (s : State) (l : List Word) (w : Nat), s.phase = .run l w →
    s.progress.toNat < 32768 →
    let n := s.progress.toNat
    let y := s.transform ch xs ⟨s.dec db (BitVec.ofNat 8 (n % 32 * 8 + 4)),
      s.dec db (BitVec.ofNat 8 (n / 32 % 32 * 8 + 4)), s.dec db (BitVec.ofNat 8 (n / 1024 * 8 + 4))⟩
    ∃ t, storesCell s t n (pack (s.enc eb y.c0) (s.enc eb y.c1) (s.enc eb y.c2) 255#8) ∧
      exec (.build db eb ch xs) s = .next (elementDone t 32768 true)

/-- The write of an APPLY_TRI element (rules R256, R257 and R262): each channel blends the two diagonal corners with its own
axis's weight; alpha 255. -/
def Obligations.ApplyTriWritesBlend : Prop :=
  ∀ (x : Bool) (s : State) (w : Word), s.phase = .run [w] 0 →
    s.progress.toNat < s.count.toNat → portGood s (s.dst.toNat + 4 * s.progress.toNat) →
    let r := axis (red w) x
    let g := axis (green w) x
    let b := axis (blue w) x
    let c0 := s.gridAt (b.i0 * 1024 + g.i0 * 32 + r.i0).toNat
    let c1 := s.gridAt (b.i1 * 1024 + g.i1 * 32 + r.i1).toNat
    ∃ t, storesWord s t (s.dst.toNat + 4 * s.progress.toNat)
        (pack (blend (red c0) (red c1) r.weight x) (blend (green c0) (green c1) g.weight x)
          (blend (blue c0) (blue c1) b.weight x) 255#8) ∧
      exec (.applyTri x) s = .next (elementDone t s.count.toNat false)

/-- The write of an APPLY_NEAREST element (rule R265): the cell each channel falls in, alpha 255. -/
def Obligations.ApplyNearestWritesCell : Prop :=
  ∀ (s : State) (w : Word), s.phase = .run [w] 0 →
    s.progress.toNat < s.count.toNat → portGood s (s.dst.toNat + 4 * s.progress.toNat) →
    let c := s.gridAt ((blue w).toNat / 8 * 1024 + (green w).toNat / 8 * 32 + (red w).toNat / 8)
    ∃ t, storesWord s t (s.dst.toNat + 4 * s.progress.toNat) (pack (red c) (green c) (blue c) 255#8) ∧
      exec .applyNearest s = .next (elementDone t s.count.toNat false)

/-- The write of an APPLY_MONO element (rules R270 and R271): the ramp entry the channel or the luminance selects, alpha
255; GVALID is ignored. -/
def Obligations.ApplyMonoWritesRampEntry : Prop :=
  ∀ (db eb : Bank) (ms : Mono) (s : State) (w : Word), s.phase = .run [w] 0 →
    s.progress.toNat < s.count.toNat → portGood s (s.dst.toNat + 4 * s.progress.toNat) →
    let q : Byte := match ms with
      | .red => red w
      | .green => green w
      | .blue => blue w
      | .luminance => s.enc eb (mac s.luma ⟨s.dec db (red w), s.dec db (green w), s.dec db (blue w)⟩)
    let c := tableEntry s.ramp q.toNat
    ∃ t, storesWord s t (s.dst.toNat + 4 * s.progress.toNat) (pack (red c) (green c) (blue c) 255#8) ∧
      exec (.applyMono db eb ms) s = .next (elementDone t s.count.toNat false)

/-- One image word of LUT_LOAD (rules R280 and R126): read whole into the cell image pixel (m mod 1024, m div 1024)
holds. -/
def Obligations.LutLoadFillsCell : Prop :=
  ∀ (s : State) (k : Nat), s.phase = .run [] k → s.progress.toNat < 32768 →
    portGood s (s.src.toNat + 4 * s.progress.toNat) →
    let m := s.progress.toNat
    ∃ t, storesCell s t (m % 1024 / 32 * 1024 + m / 1024 * 32 + m % 32) (s.mem.word (s.src.toNat + 4 * m)) ∧
      exec .lutLoad s = .next (elementDone t 32768 true)

/-- One image word of LUT_STORE (rules R285 and R126): the cell's word written unchanged. -/
def Obligations.LutStoreWritesCell : Prop :=
  ∀ (s : State) (l : List Word), s.phase = .run l 0 → s.progress.toNat < 32768 →
    portGood s (s.dst.toNat + 4 * s.progress.toNat) →
    let m := s.progress.toNat
    ∃ t, storesWord s t (s.dst.toNat + 4 * m) (s.gridAt (m % 1024 / 32 * 1024 + m / 1024 * 32 + m % 32)) ∧
      exec .lutStore s = .next (elementDone t 32768 false)

/-- An access answered by an error ends the command with BusError, code 7: PROGRESS stays at the failing element, ERRADDR
is the access's address, and memory, grid and GVALID stay as they are (rules R104, R105, R307 and R320). -/
def Obligations.BusErrorEndsCommand : Prop :=
  ∀ (i : Instr) (s : State) (l : List Word) (k : Nat), s.phase = .run l k →
    s.progress.toNat < (commandOf i).elements.number s →
    (l.length < (commandOf i).reads →
      let a := (commandOf i).inputAddress s s.progress.toNat l.length
      a < 2 ^ 32 → a % 4 = 0 → s.busOk a = false → exec i s = .next (busFailed s a)) ∧
    ((commandOf i).reads ≤ l.length → k < (commandOf i).writes →
      let a := (commandOf i).outputAddress s s.progress.toNat k
      a < 2 ^ 32 → a % 4 = 0 → s.busOk a = false → exec i s = .next (busFailed s a))

/-- What no step of a command writes: the operand registers ("the engine never writes it", rules R45 to R47), the
enables, OVR, the table port's registers, the coefficients and tables, the bus and the inputs; nothing of memory or
grid on acceptance (rule R181); the grid and GVALID by the commands that fill it only; memory by the commands with an
output buffer only (rule R100). -/
def Obligations.CommandsLeaveLockedState : Prop :=
  ∀ (i : Instr) (s t : State), exec i s = .next t →
    t =
      { s with
        gvalid := t.gvalid
        phase := t.phase
        done := t.done
        err := t.err
        errCode := t.errCode
        cmd := t.cmd
        progress := t.progress
        errAddr := t.errAddr
        grid := t.grid
        mem := t.mem } ∧
    (s.phase = .idle → t.mem = s.mem ∧ t.grid = s.grid ∧ t.cmd = encode i) ∧
    (s.phase ≠ .idle → t.cmd = s.cmd) ∧
    ((commandOf i).fillsGrid = false → t.grid = s.grid ∧ t.gvalid = s.gvalid) ∧
    ((commandOf i).output = none → t.mem = s.mem)

/-! ## Numbers -/

/-- The encode primitive (rule R202). On every table, non-decreasing or not, it is the number of k in 1..255 with
ENC[b][k] <= v; on a non-decreasing table it is the largest such k, or 0 when there is none. With the reset contents, the
rule's two examples. -/
def Obligations.EncodeIsLargestThreshold : Prop :=
  (∀ (s : State) (b : Bank) (v : Word),
    let table : Vector Word 255 := match b with
      | .scale255 => s.enc0
      | .scale256 => s.enc1
    let enc : Nat → Int := fun k => (tableEntry table (k - 1)).toInt
    (s.enc b v).toNat = ((Finset.Icc 1 255).filter fun k => enc k ≤ v.toInt).card ∧
    ((∀ j k, 1 ≤ j → j ≤ k → k ≤ 255 → enc j ≤ enc k) →
      ∀ k, 1 ≤ k → k ≤ 255 → (enc k ≤ v.toInt ↔ k ≤ (s.enc b v).toNat))) ∧
  State.reset.enc .scale255 0x00800000#32 = 186#8 ∧ State.reset.enc .scale256 0x00800000#32 = 187#8

/-- Rule R204: encoding a decoded value gives it back, for all tables that interleave, as the reset contents do. -/
def Obligations.GammaRoundTrip : Prop :=
  (∀ (s : State) (b : Bank),
    (∀ k, 1 ≤ k → k ≤ 255 →
      (tableEntry (s.decTable b) (k - 1)).toInt < (tableEntry (s.encTable b) (k - 1)).toInt ∧
      (tableEntry (s.encTable b) (k - 1)).toInt ≤ (tableEntry (s.decTable b) k).toInt) →
    ∀ p : Byte, s.enc b (s.dec b p) = p) ∧
  ∀ (mem : Memory) (bus : List Word) (ins : List Input) (n : Nat) (b : Bank),
    let s := State.afterReset mem bus ins n
    (∀ p : Byte, s.enc b (s.dec b p) = p) ∧
    ∀ k, 1 ≤ k → k ≤ 255 →
      (tableEntry (s.decTable b) (k - 1)).toInt < (tableEntry (s.encTable b) (k - 1)).toInt ∧
      (tableEntry (s.encTable b) (k - 1)).toInt ≤ (tableEntry (s.decTable b) k).toInt

/-- Rule R208: the exact sum rounded to the nearest multiple of 2^24, ties toward +infinity, then saturated; with the
rule's four examples. -/
def Obligations.MacRoundsAndSaturates : Prop :=
  (∀ r x : Lin,
    let d := r.c0.toInt * x.c0.toInt + r.c1.toInt * x.c1.toInt + r.c2.toInt * x.c2.toInt
    let m := (mac r x).toInt
    (2 ^ 24 * m ≤ d + 2 ^ 23 ∧ d + 2 ^ 23 < 2 ^ 24 * (m + 1)) ∨
    (m = 2 ^ 31 - 1 ∧ 2 ^ 24 * (2 ^ 31) ≤ d + 2 ^ 23) ∨ (m = -2 ^ 31 ∧ d + 2 ^ 23 < 2 ^ 24 * (-2 ^ 31))) ∧
  (∀ (m : Mat) (x : Lin), matmul m x = ⟨mac m.r0 x, mac m.r1 x, mac m.r2 x⟩) ∧
  mac ⟨0x00800000#32, 0#32, 0#32⟩ ⟨1#32, 0#32, 0#32⟩ = 1#32 ∧
  mac ⟨0x00800000#32, 0#32, 0#32⟩ ⟨-1#32, 0#32, 0#32⟩ = 0#32 ∧
  mac ⟨0x00800000#32, 0#32, 0#32⟩ ⟨-3#32, 0#32, 0#32⟩ = -1#32 ∧
  mac ⟨0x7FFFFFFF#32, 0x7FFFFFFF#32, 0x7FFFFFFF#32⟩ ⟨0x7FFFFFFF#32, 0x7FFFFFFF#32, 0x7FFFFFFF#32⟩ = 0x7FFFFFFF#32

/-- Rule R209: the transform of a command's fields; and an identity matrix is exact, so that the reset matrices change no
colour (rules R53 and R208). -/
def Obligations.TransformChain : Prop :=
  (∀ (s : State) (ch : Chain) (x : Lin), s.transform ch true x = Config.xf x) ∧
  (∀ (s : State) (ch : Chain) (x : Lin),
    let y0 := if ch.m0 then matmul s.m0 x else x
    let y1 := if ch.m1 then matmul s.m1 y0 else y0
    let y2 := if ch.m2 then matmul s.m2 y1 else y1
    s.transform ch false x = y2) ∧
  (∀ x : Lin, matmul identityMat x = x) ∧
  ∀ (mem : Memory) (bus : List Word) (ins : List Input) (n : Nat) (ch : Chain) (x : Lin),
    (State.afterReset mem bus ins n).transform ch false x = x

/-- The axis computation at B = 5 (rules R255, R258 and R259): its value for X = 1 and X = 0 as formulas in p, with the
values at both sides of the two boundaries and at the ends; both indices lie in 0..31; extrapolating, the weight lies in
-4..11, is negative exactly below 4 and at least 8 exactly from 252 on; otherwise it lies in 0..7. -/
def Obligations.AxisStaysInGrid : Prop :=
  (∀ p : Byte,
    let v : Int := p.toNat
    axis p true =
      (if v < 4 then ⟨0, 1, v - 4⟩
        else if 252 ≤ v then ⟨30, 31, v - 244⟩
        else ⟨(v + 4) / 8 - 1, (v + 4) / 8, (v + 4) % 8⟩) ∧
    axis p false =
      ⟨if v < 4 then 0 else (v + 4) / 8 - 1, if 252 ≤ v then 31 else (v + 4) / 8, (v + 4) % 8⟩ ∧
    (∀ x : Bool, 0 ≤ (axis p x).i0 ∧ (axis p x).i0 ≤ 31 ∧ 0 ≤ (axis p x).i1 ∧ (axis p x).i1 ≤ 31) ∧
    (-4 ≤ (axis p true).weight ∧ (axis p true).weight ≤ 11 ∧ ((axis p true).weight < 0 ↔ p.toNat < 4) ∧
      (8 ≤ (axis p true).weight ↔ 252 ≤ p.toNat)) ∧
    0 ≤ (axis p false).weight ∧ (axis p false).weight ≤ 7) ∧
  axis 0#8 true = ⟨0, 1, -4⟩ ∧ axis 0#8 false = ⟨0, 0, 4⟩ ∧
  axis 3#8 true = ⟨0, 1, -1⟩ ∧ axis 3#8 false = ⟨0, 0, 7⟩ ∧
  axis 4#8 true = ⟨0, 1, 0⟩ ∧ axis 4#8 false = ⟨0, 1, 0⟩ ∧ axis 251#8 true = ⟨30, 31, 7⟩ ∧
  axis 251#8 false = ⟨30, 31, 7⟩ ∧ axis 252#8 true = ⟨30, 31, 8⟩ ∧ axis 252#8 false = ⟨31, 31, 0⟩ ∧
  axis 255#8 true = ⟨30, 31, 11⟩ ∧ axis 255#8 false = ⟨31, 31, 3⟩

/-- The blend (rules R257, R260 and R261): between equal corners it is the corner whatever the weight; for weights in 0..7
it lies between the corners; extrapolating, it is the floor quotient clamped to [0, 255]. -/
def Obligations.BlendBounds : Prop :=
  (∀ (a : Byte) (w : Int) (x : Bool), blend a a w x = a) ∧
  (∀ (a b : Byte) (w : Int) (x : Bool), 0 ≤ w → w < 8 →
    min a.toNat b.toNat ≤ (blend a b w x).toNat ∧ (blend a b w x).toNat ≤ max a.toNat b.toNat ∧
      ((blend a b w x).toNat : Int) = ((8 - w) * a.toNat + w * b.toNat) / 8) ∧
  ∀ (a b : Byte) (w : Int),
    ((blend a b w true).toNat : Int) = max 0 (min 255 (((8 - w) * a.toNat + w * b.toNat) / 8))

/-- On the identity grid APPLY_TRI with X = 1 gives every pixel's own R, G and B, and with X = 0 clamps each channel to
4..252, alpha 255 (rule R256's example, 90_conflicts.md C9). -/
def Obligations.IdentityGridIsExact : Prop :=
  ∀ s : State,
    (∀ i j k, i < 32 → j < 32 → k < 32 → s.gridAt (1024 * i + 32 * j + k) =
      pack (BitVec.ofNat 8 (8 * k + 4)) (BitVec.ofNat 8 (8 * j + 4)) (BitVec.ofNat 8 (8 * i + 4)) 255#8) →
    ∀ w : Word,
      s.triPixel true w = pack (red w) (green w) (blue w) 255#8 ∧
      s.triPixel false w =
        pack (BitVec.ofNat 8 (max 4 (min 252 (red w).toNat))) (BitVec.ofNat 8 (max 4 (min 252 (green w).toNat)))
          (BitVec.ofNat 8 (max 4 (min 252 (blue w).toNat))) 255#8

/-- Grey luminance (rules R54 and R271): with the reset weights the luminance of a grey is its own value exactly, so that a
grey pixel selects the ramp entry of its own code in a bank whose tables round-trip. -/
def Obligations.GreyLuminanceIsExact : Prop :=
  (∀ v : Word, mac lumaWeights ⟨v, v, v⟩ = v) ∧
  ∀ (s : State) (b : Bank) (p a : Byte), s.luma = lumaWeights → s.enc b (s.dec b p) = p →
    s.rampIndex b b .luminance (pack p p p a) = p

/-- The image map m to n of LUT_LOAD and LUT_STORE is a bijection of 0..32767 (rules R126 and R286). -/
def Obligations.ImageMapIsBijection : Prop :=
  (∀ m, m < 32768 → imageCell m < 32768) ∧
  (∀ m m', m < 32768 → m' < 32768 → imageCell m = imageCell m' → m = m') ∧
  (∀ n, n < 32768 → ∃ m, m < 32768 ∧ imageCell m = n) ∧
  ∀ i j k, i < 32 → j < 32 → k < 32 → imageCell (j * 1024 + (k + i * 32)) = i * 1024 + j * 32 + k

/-! ## The invariant and whole runs -/

/-- The invariant holds after a reset, with any system memory in canonical form beside the block. -/
def Obligations.ResetMeetsInvariant : Prop :=
  Inv State.reset ∧
  ∀ (mem : Memory) (bus : List Word) (ins : List Input) (n : Nat), mem.wf → Inv (State.afterReset mem bus ins n)

/-- Every step keeps the invariant: the canonical forms of memory and grid, the consistent report (rule R42, entry I6), and
a running command properly under way (rules R63, R114, R175, R180 and R182). -/
def Obligations.StepKeepsInvariant : Prop :=
  ∀ s t : State, Inv s → step s = .next t → Inv t

/-- No state that meets the invariant faults: the engine never makes an access outside the address space or misaligned
(rules R104, R110 and R112), nor an element beyond the last (log entry 9). -/
def Obligations.InvariantRulesOutFaults : Prop :=
  ∀ s : State, Inv s → noFault (step s)

/-- Rule R125: the only access a step refuses is a host access at an offset that is no multiple of 4, and it refuses every
such access. -/
def Obligations.OnlyMisalignedHostAccessRefused : Prop :=
  ∀ (s : State) (r : Refusal), step s = .refused r ↔
    ∃ (off : BitVec 12) (rest : List Input), off.toNat % 4 ≠ 0 ∧ r = .misalignedHostAccess off ∧
      (s.inputs = .hostRead off :: rest ∨ ∃ w, s.inputs = .hostWrite off w :: rest)

/-- Every running command ends after finitely many engine steps (rule R189). The bound is seven accesses an element: a LIN
element read and a LIN element written (rules R107 and R108) make seven, where rule R189 says four (log entry 19). -/
def Obligations.EveryCommandEnds : Prop :=
  ∀ (s : State) (i : Instr) (l : List Word) (k : Nat), Inv s → s.inputs = [] → s.phase = .run l k →
    decode s.cmd = some i →
    ∃ (n : Nat) (t : State), n ≤ 7 * (commandOf i).elements.number s ∧ Sys2Proof.core.run n s = .next t ∧
      t.phase = .idle ∧ t.done = true

/-- A whole run of a command from RGBA8 to RGBA8 (PIPE, APPLY_TRI, APPLY_NEAREST, APPLY_MONO), disjoint or in place: from
the host's CMD write, two engine steps a pixel, every output pixel is the command's pixel function of the input pixel as
it stood, and no other byte of memory changes (rules R112 to R115, R186 and R187). -/
def Obligations.StreamRunMapsEveryPixel : Prop :=
  ∀ (i : Instr) (f : Word → Word) (s : State), pixelFunction s i = some f → i.wf = true → s.phase = .idle →
    s.inputs = [.hostWrite 0x010#12 (encode i)] → (samplesGrid i = true → s.gvalid = true) →
    buffersGood 4 4 s.src.toNat s.dst.toNat s.count.toNat →
    (∀ e, e < s.count.toNat → s.busOk (s.src.toNat + 4 * e) = true ∧ s.busOk (s.dst.toNat + 4 * e) = true) →
    ∃ t, Sys2Proof.core.run (1 + 2 * s.count.toNat) s = .next t ∧
      (∀ e, e < s.count.toNat → t.mem.word (s.dst.toNat + 4 * e) = f (s.mem.word (s.src.toNat + 4 * e))) ∧
      (∀ b, b < s.dst.toNat ∨ s.dst.toNat + 4 * s.count.toNat ≤ b → t.mem.byte b = s.mem.byte b) ∧
      t = { doneAtOnce s (encode i) with inputs := [], progress := s.count, mem := t.mem }

/-- A whole BUILD (rules R250 and R251): 32768 engine steps after the CMD write every cell holds the encoded transform of
its sample point, GVALID = 1, PROGRESS = 32768, and memory is untouched. -/
def Obligations.BuildRunFillsGrid : Prop :=
  ∀ (db eb : Bank) (ch : Chain) (xs : Bool) (s : State), transformLegal ch xs = true → s.phase = .idle →
    s.inputs = [.hostWrite 0x010#12 (encode (.build db eb ch xs))] →
    ∃ t, Sys2Proof.core.run 32769 s = .next t ∧
      (∀ i j k, i < 32 → j < 32 → k < 32 →
        let y := s.transform ch xs ⟨s.dec db (BitVec.ofNat 8 (8 * k + 4)), s.dec db (BitVec.ofNat 8 (8 * j + 4)),
          s.dec db (BitVec.ofNat 8 (8 * i + 4))⟩
        t.gridAt (i * 1024 + j * 32 + k) = pack (s.enc eb y.c0) (s.enc eb y.c1) (s.enc eb y.c2) 255#8) ∧
      t =
        { doneAtOnce s (encode (.build db eb ch xs)) with
          inputs := []
          progress := 32768#32
          gvalid := true
          grid := t.grid }

/-- Rule R286, first half: LUT_STORE followed by LUT_LOAD of the same image restores every GRID entry exactly, whatever the
grid came to hold in between. -/
def Obligations.StoreThenLoadRestoresGrid : Prop :=
  ∀ s : State, s.phase = .idle → s.inputs = [.hostWrite 0x010#12 0x0000000A#32] → s.count = 0x00200400#32 →
    s.src = s.dst → s.dst.toNat % 4 = 0 → s.dst.toNat + 131072 ≤ 2 ^ 32 →
    (∀ m, m < 32768 → s.busOk (s.dst.toNat + 4 * m) = true) →
    ∃ t, Sys2Proof.core.run 32769 s = .next t ∧ t.done = true ∧ t.err = false ∧
      ∀ g : List (Nat × Word), ∃ u,
        Sys2Proof.core.run 32769 { t with grid := g, inputs := [.hostWrite 0x010#12 0x00000009#32] } = .next u ∧
        u.done = true ∧ u.err = false ∧ u.gvalid = true ∧ u.mem = t.mem ∧
        ∀ n, n < 32768 → u.gridAt n = s.gridAt n

/-! ## Other masters -/

/-- A word access of the host or another bus master to system memory, in every phase and whatever BUS_OK answers (rules
R111, R119 and R102; that it is one word input to which BUS_OK does not apply is log entry 11, and that a read's value
stands in `readData` log entry 10): a write stores exactly the four bytes of its word, little-endian, and changes nothing
else; a read returns the word there and changes nothing else. -/
def Obligations.OtherMastersAccessMemory : Prop :=
  ∀ (s : State) (word : BitVec 30) (rest : List Input),
    (∀ w, s.inputs = .memWrite word w :: rest →
      ∃ t, step s = .next t ∧ t = { s with inputs := rest, mem := t.mem } ∧ t.mem.word (4 * word.toNat) = w ∧
        (∀ k, k < 4 → t.mem.byte (4 * word.toNat + k) = w.extractLsb' (8 * k) 8) ∧
        ∀ b, b < 4 * word.toNat ∨ 4 * word.toNat + 4 ≤ b → t.mem.byte b = s.mem.byte b) ∧
    (s.inputs = .memRead word :: rest →
      step s = .next { s with inputs := rest, readData := s.mem.word (4 * word.toNat) }) ∧
    ∀ (m : Memory) (a k : Nat), k < 4 → (m.word a).extractLsb' (8 * k) 8 = m.byte (a + k)
end

