-- ==== Sys2Proof/Laws/State.lean ====
section
/-! SUPPORT. The small lemmas of the state's updates: one per field per update, so that no proof unfolds a record update. -/

namespace Sys2Proof.Machine

/-! `State.accept` (rule R180). -/

@[simp] theorem accept_ieDone (s : State) (w : Word) : (s.accept w).ieDone = s.ieDone := rfl
@[simp] theorem accept_ieErr (s : State) (w : Word) : (s.accept w).ieErr = s.ieErr := rfl
@[simp] theorem accept_gvalid (s : State) (w : Word) : (s.accept w).gvalid = s.gvalid := rfl
@[simp] theorem accept_phase (s : State) (w : Word) : (s.accept w).phase = .run [] 0 := rfl
@[simp] theorem accept_done (s : State) (w : Word) : (s.accept w).done = false := rfl
@[simp] theorem accept_err (s : State) (w : Word) : (s.accept w).err = false := rfl
@[simp] theorem accept_ovr (s : State) (w : Word) : (s.accept w).ovr = s.ovr := rfl
@[simp] theorem accept_errCode (s : State) (w : Word) : (s.accept w).errCode = 0#4 := rfl
@[simp] theorem accept_cmd (s : State) (w : Word) : (s.accept w).cmd = w := rfl
@[simp] theorem accept_src (s : State) (w : Word) : (s.accept w).src = s.src := rfl
@[simp] theorem accept_dst (s : State) (w : Word) : (s.accept w).dst = s.dst := rfl
@[simp] theorem accept_count (s : State) (w : Word) : (s.accept w).count = s.count := rfl
@[simp] theorem accept_progress (s : State) (w : Word) : (s.accept w).progress = 0#32 := rfl
@[simp] theorem accept_errAddr (s : State) (w : Word) : (s.accept w).errAddr = 0#32 := rfl
@[simp] theorem accept_tabSel (s : State) (w : Word) : (s.accept w).tabSel = s.tabSel := rfl
@[simp] theorem accept_tabIdx (s : State) (w : Word) : (s.accept w).tabIdx = s.tabIdx := rfl
@[simp] theorem accept_m0 (s : State) (w : Word) : (s.accept w).m0 = s.m0 := rfl
@[simp] theorem accept_m1 (s : State) (w : Word) : (s.accept w).m1 = s.m1 := rfl
@[simp] theorem accept_m2 (s : State) (w : Word) : (s.accept w).m2 = s.m2 := rfl
@[simp] theorem accept_luma (s : State) (w : Word) : (s.accept w).luma = s.luma := rfl
@[simp] theorem accept_grid (s : State) (w : Word) : (s.accept w).grid = s.grid := rfl
@[simp] theorem accept_resets (s : State) (w : Word) : (s.accept w).resets = s.resets := rfl
@[simp] theorem accept_dec0 (s : State) (w : Word) : (s.accept w).dec0 = s.dec0 := rfl
@[simp] theorem accept_dec1 (s : State) (w : Word) : (s.accept w).dec1 = s.dec1 := rfl
@[simp] theorem accept_enc0 (s : State) (w : Word) : (s.accept w).enc0 = s.enc0 := rfl
@[simp] theorem accept_enc1 (s : State) (w : Word) : (s.accept w).enc1 = s.enc1 := rfl
@[simp] theorem accept_ramp (s : State) (w : Word) : (s.accept w).ramp = s.ramp := rfl
@[simp] theorem accept_mem (s : State) (w : Word) : (s.accept w).mem = s.mem := rfl
@[simp] theorem accept_noResponse (s : State) (w : Word) : (s.accept w).noResponse = s.noResponse := rfl
@[simp] theorem accept_inputs (s : State) (w : Word) : (s.accept w).inputs = s.inputs := rfl
@[simp] theorem accept_readData (s : State) (w : Word) : (s.accept w).readData = s.readData := rfl

/-! `State.raise` (rule R320). -/

@[simp] theorem raise_ieDone (s : State) (e : CmdError) (a : Word) : (s.raise e a).ieDone = s.ieDone := rfl
@[simp] theorem raise_ieErr (s : State) (e : CmdError) (a : Word) : (s.raise e a).ieErr = s.ieErr := rfl
@[simp] theorem raise_gvalid (s : State) (e : CmdError) (a : Word) : (s.raise e a).gvalid = s.gvalid := rfl
@[simp] theorem raise_phase (s : State) (e : CmdError) (a : Word) : (s.raise e a).phase = .idle := rfl
@[simp] theorem raise_done (s : State) (e : CmdError) (a : Word) : (s.raise e a).done = true := rfl
@[simp] theorem raise_err (s : State) (e : CmdError) (a : Word) : (s.raise e a).err = true := rfl
@[simp] theorem raise_ovr (s : State) (e : CmdError) (a : Word) : (s.raise e a).ovr = s.ovr := rfl
@[simp] theorem raise_errCode (s : State) (e : CmdError) (a : Word) : (s.raise e a).errCode = e.code := rfl
@[simp] theorem raise_cmd (s : State) (e : CmdError) (a : Word) : (s.raise e a).cmd = s.cmd := rfl
@[simp] theorem raise_src (s : State) (e : CmdError) (a : Word) : (s.raise e a).src = s.src := rfl
@[simp] theorem raise_dst (s : State) (e : CmdError) (a : Word) : (s.raise e a).dst = s.dst := rfl
@[simp] theorem raise_count (s : State) (e : CmdError) (a : Word) : (s.raise e a).count = s.count := rfl
@[simp] theorem raise_progress (s : State) (e : CmdError) (a : Word) : (s.raise e a).progress = s.progress := rfl
@[simp] theorem raise_errAddr (s : State) (e : CmdError) (a : Word) : (s.raise e a).errAddr = a := rfl
@[simp] theorem raise_tabSel (s : State) (e : CmdError) (a : Word) : (s.raise e a).tabSel = s.tabSel := rfl
@[simp] theorem raise_tabIdx (s : State) (e : CmdError) (a : Word) : (s.raise e a).tabIdx = s.tabIdx := rfl
@[simp] theorem raise_m0 (s : State) (e : CmdError) (a : Word) : (s.raise e a).m0 = s.m0 := rfl
@[simp] theorem raise_m1 (s : State) (e : CmdError) (a : Word) : (s.raise e a).m1 = s.m1 := rfl
@[simp] theorem raise_m2 (s : State) (e : CmdError) (a : Word) : (s.raise e a).m2 = s.m2 := rfl
@[simp] theorem raise_luma (s : State) (e : CmdError) (a : Word) : (s.raise e a).luma = s.luma := rfl
@[simp] theorem raise_grid (s : State) (e : CmdError) (a : Word) : (s.raise e a).grid = s.grid := rfl
@[simp] theorem raise_resets (s : State) (e : CmdError) (a : Word) : (s.raise e a).resets = s.resets := rfl
@[simp] theorem raise_dec0 (s : State) (e : CmdError) (a : Word) : (s.raise e a).dec0 = s.dec0 := rfl
@[simp] theorem raise_dec1 (s : State) (e : CmdError) (a : Word) : (s.raise e a).dec1 = s.dec1 := rfl
@[simp] theorem raise_enc0 (s : State) (e : CmdError) (a : Word) : (s.raise e a).enc0 = s.enc0 := rfl
@[simp] theorem raise_enc1 (s : State) (e : CmdError) (a : Word) : (s.raise e a).enc1 = s.enc1 := rfl
@[simp] theorem raise_ramp (s : State) (e : CmdError) (a : Word) : (s.raise e a).ramp = s.ramp := rfl
@[simp] theorem raise_mem (s : State) (e : CmdError) (a : Word) : (s.raise e a).mem = s.mem := rfl
@[simp] theorem raise_noResponse (s : State) (e : CmdError) (a : Word) : (s.raise e a).noResponse = s.noResponse := rfl
@[simp] theorem raise_inputs (s : State) (e : CmdError) (a : Word) : (s.raise e a).inputs = s.inputs := rfl
@[simp] theorem raise_readData (s : State) (e : CmdError) (a : Word) : (s.raise e a).readData = s.readData := rfl

/-! `State.acceptIllegal` (rule R301). -/

@[simp] theorem acceptIllegal_ieDone (s : State) (w : Word) : (s.acceptIllegal w).ieDone = s.ieDone := rfl
@[simp] theorem acceptIllegal_ieErr (s : State) (w : Word) : (s.acceptIllegal w).ieErr = s.ieErr := rfl
@[simp] theorem acceptIllegal_gvalid (s : State) (w : Word) : (s.acceptIllegal w).gvalid = s.gvalid := rfl
@[simp] theorem acceptIllegal_phase (s : State) (w : Word) : (s.acceptIllegal w).phase = .idle := rfl
@[simp] theorem acceptIllegal_done (s : State) (w : Word) : (s.acceptIllegal w).done = true := rfl
@[simp] theorem acceptIllegal_err (s : State) (w : Word) : (s.acceptIllegal w).err = true := rfl
@[simp] theorem acceptIllegal_ovr (s : State) (w : Word) : (s.acceptIllegal w).ovr = s.ovr := rfl
@[simp] theorem acceptIllegal_errCode (s : State) (w : Word) : (s.acceptIllegal w).errCode = 1#4 := rfl
@[simp] theorem acceptIllegal_cmd (s : State) (w : Word) : (s.acceptIllegal w).cmd = w := rfl
@[simp] theorem acceptIllegal_src (s : State) (w : Word) : (s.acceptIllegal w).src = s.src := rfl
@[simp] theorem acceptIllegal_dst (s : State) (w : Word) : (s.acceptIllegal w).dst = s.dst := rfl
@[simp] theorem acceptIllegal_count (s : State) (w : Word) : (s.acceptIllegal w).count = s.count := rfl
@[simp] theorem acceptIllegal_progress (s : State) (w : Word) : (s.acceptIllegal w).progress = 0#32 := rfl
@[simp] theorem acceptIllegal_errAddr (s : State) (w : Word) : (s.acceptIllegal w).errAddr = 0#32 := rfl
@[simp] theorem acceptIllegal_tabSel (s : State) (w : Word) : (s.acceptIllegal w).tabSel = s.tabSel := rfl
@[simp] theorem acceptIllegal_tabIdx (s : State) (w : Word) : (s.acceptIllegal w).tabIdx = s.tabIdx := rfl
@[simp] theorem acceptIllegal_m0 (s : State) (w : Word) : (s.acceptIllegal w).m0 = s.m0 := rfl
@[simp] theorem acceptIllegal_m1 (s : State) (w : Word) : (s.acceptIllegal w).m1 = s.m1 := rfl
@[simp] theorem acceptIllegal_m2 (s : State) (w : Word) : (s.acceptIllegal w).m2 = s.m2 := rfl
@[simp] theorem acceptIllegal_luma (s : State) (w : Word) : (s.acceptIllegal w).luma = s.luma := rfl
@[simp] theorem acceptIllegal_grid (s : State) (w : Word) : (s.acceptIllegal w).grid = s.grid := rfl
@[simp] theorem acceptIllegal_resets (s : State) (w : Word) : (s.acceptIllegal w).resets = s.resets := rfl
@[simp] theorem acceptIllegal_dec0 (s : State) (w : Word) : (s.acceptIllegal w).dec0 = s.dec0 := rfl
@[simp] theorem acceptIllegal_dec1 (s : State) (w : Word) : (s.acceptIllegal w).dec1 = s.dec1 := rfl
@[simp] theorem acceptIllegal_enc0 (s : State) (w : Word) : (s.acceptIllegal w).enc0 = s.enc0 := rfl
@[simp] theorem acceptIllegal_enc1 (s : State) (w : Word) : (s.acceptIllegal w).enc1 = s.enc1 := rfl
@[simp] theorem acceptIllegal_ramp (s : State) (w : Word) : (s.acceptIllegal w).ramp = s.ramp := rfl
@[simp] theorem acceptIllegal_mem (s : State) (w : Word) : (s.acceptIllegal w).mem = s.mem := rfl
@[simp] theorem acceptIllegal_noResponse (s : State) (w : Word) : (s.acceptIllegal w).noResponse = s.noResponse := rfl
@[simp] theorem acceptIllegal_inputs (s : State) (w : Word) : (s.acceptIllegal w).inputs = s.inputs := rfl
@[simp] theorem acceptIllegal_readData (s : State) (w : Word) : (s.acceptIllegal w).readData = s.readData := rfl

/-! `State.complete` (rule R187). -/

@[simp] theorem complete_ieDone (s : State) (fills : Bool) : (s.complete fills).ieDone = s.ieDone := rfl
@[simp] theorem complete_ieErr (s : State) (fills : Bool) : (s.complete fills).ieErr = s.ieErr := rfl
@[simp] theorem complete_gvalid (s : State) (fills : Bool) : (s.complete fills).gvalid = (fills || s.gvalid) := rfl
@[simp] theorem complete_phase (s : State) (fills : Bool) : (s.complete fills).phase = .idle := rfl
@[simp] theorem complete_done (s : State) (fills : Bool) : (s.complete fills).done = true := rfl
@[simp] theorem complete_err (s : State) (fills : Bool) : (s.complete fills).err = s.err := rfl
@[simp] theorem complete_ovr (s : State) (fills : Bool) : (s.complete fills).ovr = s.ovr := rfl
@[simp] theorem complete_errCode (s : State) (fills : Bool) : (s.complete fills).errCode = s.errCode := rfl
@[simp] theorem complete_cmd (s : State) (fills : Bool) : (s.complete fills).cmd = s.cmd := rfl
@[simp] theorem complete_src (s : State) (fills : Bool) : (s.complete fills).src = s.src := rfl
@[simp] theorem complete_dst (s : State) (fills : Bool) : (s.complete fills).dst = s.dst := rfl
@[simp] theorem complete_count (s : State) (fills : Bool) : (s.complete fills).count = s.count := rfl
@[simp] theorem complete_progress (s : State) (fills : Bool) : (s.complete fills).progress = s.progress := rfl
@[simp] theorem complete_errAddr (s : State) (fills : Bool) : (s.complete fills).errAddr = s.errAddr := rfl
@[simp] theorem complete_tabSel (s : State) (fills : Bool) : (s.complete fills).tabSel = s.tabSel := rfl
@[simp] theorem complete_tabIdx (s : State) (fills : Bool) : (s.complete fills).tabIdx = s.tabIdx := rfl
@[simp] theorem complete_m0 (s : State) (fills : Bool) : (s.complete fills).m0 = s.m0 := rfl
@[simp] theorem complete_m1 (s : State) (fills : Bool) : (s.complete fills).m1 = s.m1 := rfl
@[simp] theorem complete_m2 (s : State) (fills : Bool) : (s.complete fills).m2 = s.m2 := rfl
@[simp] theorem complete_luma (s : State) (fills : Bool) : (s.complete fills).luma = s.luma := rfl
@[simp] theorem complete_grid (s : State) (fills : Bool) : (s.complete fills).grid = s.grid := rfl
@[simp] theorem complete_resets (s : State) (fills : Bool) : (s.complete fills).resets = s.resets := rfl
@[simp] theorem complete_dec0 (s : State) (fills : Bool) : (s.complete fills).dec0 = s.dec0 := rfl
@[simp] theorem complete_dec1 (s : State) (fills : Bool) : (s.complete fills).dec1 = s.dec1 := rfl
@[simp] theorem complete_enc0 (s : State) (fills : Bool) : (s.complete fills).enc0 = s.enc0 := rfl
@[simp] theorem complete_enc1 (s : State) (fills : Bool) : (s.complete fills).enc1 = s.enc1 := rfl
@[simp] theorem complete_ramp (s : State) (fills : Bool) : (s.complete fills).ramp = s.ramp := rfl
@[simp] theorem complete_mem (s : State) (fills : Bool) : (s.complete fills).mem = s.mem := rfl
@[simp] theorem complete_noResponse (s : State) (fills : Bool) : (s.complete fills).noResponse = s.noResponse := rfl
@[simp] theorem complete_inputs (s : State) (fills : Bool) : (s.complete fills).inputs = s.inputs := rfl
@[simp] theorem complete_readData (s : State) (fills : Bool) : (s.complete fills).readData = s.readData := rfl

/-! `State.setGrid` (rule R59). -/

@[simp] theorem setGrid_ieDone (s : State) (n : Nat) (w : Word) : (s.setGrid n w).ieDone = s.ieDone := rfl
@[simp] theorem setGrid_ieErr (s : State) (n : Nat) (w : Word) : (s.setGrid n w).ieErr = s.ieErr := rfl
@[simp] theorem setGrid_gvalid (s : State) (n : Nat) (w : Word) : (s.setGrid n w).gvalid = s.gvalid := rfl
@[simp] theorem setGrid_phase (s : State) (n : Nat) (w : Word) : (s.setGrid n w).phase = s.phase := rfl
@[simp] theorem setGrid_done (s : State) (n : Nat) (w : Word) : (s.setGrid n w).done = s.done := rfl
@[simp] theorem setGrid_err (s : State) (n : Nat) (w : Word) : (s.setGrid n w).err = s.err := rfl
@[simp] theorem setGrid_ovr (s : State) (n : Nat) (w : Word) : (s.setGrid n w).ovr = s.ovr := rfl
@[simp] theorem setGrid_errCode (s : State) (n : Nat) (w : Word) : (s.setGrid n w).errCode = s.errCode := rfl
@[simp] theorem setGrid_cmd (s : State) (n : Nat) (w : Word) : (s.setGrid n w).cmd = s.cmd := rfl
@[simp] theorem setGrid_src (s : State) (n : Nat) (w : Word) : (s.setGrid n w).src = s.src := rfl
@[simp] theorem setGrid_dst (s : State) (n : Nat) (w : Word) : (s.setGrid n w).dst = s.dst := rfl
@[simp] theorem setGrid_count (s : State) (n : Nat) (w : Word) : (s.setGrid n w).count = s.count := rfl
@[simp] theorem setGrid_progress (s : State) (n : Nat) (w : Word) : (s.setGrid n w).progress = s.progress := rfl
@[simp] theorem setGrid_errAddr (s : State) (n : Nat) (w : Word) : (s.setGrid n w).errAddr = s.errAddr := rfl
@[simp] theorem setGrid_tabSel (s : State) (n : Nat) (w : Word) : (s.setGrid n w).tabSel = s.tabSel := rfl
@[simp] theorem setGrid_tabIdx (s : State) (n : Nat) (w : Word) : (s.setGrid n w).tabIdx = s.tabIdx := rfl
@[simp] theorem setGrid_m0 (s : State) (n : Nat) (w : Word) : (s.setGrid n w).m0 = s.m0 := rfl
@[simp] theorem setGrid_m1 (s : State) (n : Nat) (w : Word) : (s.setGrid n w).m1 = s.m1 := rfl
@[simp] theorem setGrid_m2 (s : State) (n : Nat) (w : Word) : (s.setGrid n w).m2 = s.m2 := rfl
@[simp] theorem setGrid_luma (s : State) (n : Nat) (w : Word) : (s.setGrid n w).luma = s.luma := rfl
@[simp] theorem setGrid_grid (s : State) (n : Nat) (w : Word) : (s.setGrid n w).grid = cellSet s.grid n w := rfl
@[simp] theorem setGrid_resets (s : State) (n : Nat) (w : Word) : (s.setGrid n w).resets = s.resets := rfl
@[simp] theorem setGrid_dec0 (s : State) (n : Nat) (w : Word) : (s.setGrid n w).dec0 = s.dec0 := rfl
@[simp] theorem setGrid_dec1 (s : State) (n : Nat) (w : Word) : (s.setGrid n w).dec1 = s.dec1 := rfl
@[simp] theorem setGrid_enc0 (s : State) (n : Nat) (w : Word) : (s.setGrid n w).enc0 = s.enc0 := rfl
@[simp] theorem setGrid_enc1 (s : State) (n : Nat) (w : Word) : (s.setGrid n w).enc1 = s.enc1 := rfl
@[simp] theorem setGrid_ramp (s : State) (n : Nat) (w : Word) : (s.setGrid n w).ramp = s.ramp := rfl
@[simp] theorem setGrid_mem (s : State) (n : Nat) (w : Word) : (s.setGrid n w).mem = s.mem := rfl
@[simp] theorem setGrid_noResponse (s : State) (n : Nat) (w : Word) : (s.setGrid n w).noResponse = s.noResponse := rfl
@[simp] theorem setGrid_inputs (s : State) (n : Nat) (w : Word) : (s.setGrid n w).inputs = s.inputs := rfl
@[simp] theorem setGrid_readData (s : State) (n : Nat) (w : Word) : (s.setGrid n w).readData = s.readData := rfl

/-! `State.writeCtrl` (rule R173). -/

@[simp] theorem writeCtrl_ieDone (s : State) (w : Word) : (s.writeCtrl w).ieDone = w.getLsbD 0 := rfl
@[simp] theorem writeCtrl_ieErr (s : State) (w : Word) : (s.writeCtrl w).ieErr = w.getLsbD 1 := rfl
@[simp] theorem writeCtrl_gvalid (s : State) (w : Word) : (s.writeCtrl w).gvalid = if s.busy then s.gvalid else w.getLsbD 2 := rfl
@[simp] theorem writeCtrl_phase (s : State) (w : Word) : (s.writeCtrl w).phase = s.phase := rfl
@[simp] theorem writeCtrl_done (s : State) (w : Word) : (s.writeCtrl w).done = s.done := rfl
@[simp] theorem writeCtrl_err (s : State) (w : Word) : (s.writeCtrl w).err = s.err := rfl
@[simp] theorem writeCtrl_ovr (s : State) (w : Word) : (s.writeCtrl w).ovr = s.ovr := rfl
@[simp] theorem writeCtrl_errCode (s : State) (w : Word) : (s.writeCtrl w).errCode = s.errCode := rfl
@[simp] theorem writeCtrl_cmd (s : State) (w : Word) : (s.writeCtrl w).cmd = s.cmd := rfl
@[simp] theorem writeCtrl_src (s : State) (w : Word) : (s.writeCtrl w).src = s.src := rfl
@[simp] theorem writeCtrl_dst (s : State) (w : Word) : (s.writeCtrl w).dst = s.dst := rfl
@[simp] theorem writeCtrl_count (s : State) (w : Word) : (s.writeCtrl w).count = s.count := rfl
@[simp] theorem writeCtrl_progress (s : State) (w : Word) : (s.writeCtrl w).progress = s.progress := rfl
@[simp] theorem writeCtrl_errAddr (s : State) (w : Word) : (s.writeCtrl w).errAddr = s.errAddr := rfl
@[simp] theorem writeCtrl_tabSel (s : State) (w : Word) : (s.writeCtrl w).tabSel = s.tabSel := rfl
@[simp] theorem writeCtrl_tabIdx (s : State) (w : Word) : (s.writeCtrl w).tabIdx = s.tabIdx := rfl
@[simp] theorem writeCtrl_m0 (s : State) (w : Word) : (s.writeCtrl w).m0 = s.m0 := rfl
@[simp] theorem writeCtrl_m1 (s : State) (w : Word) : (s.writeCtrl w).m1 = s.m1 := rfl
@[simp] theorem writeCtrl_m2 (s : State) (w : Word) : (s.writeCtrl w).m2 = s.m2 := rfl
@[simp] theorem writeCtrl_luma (s : State) (w : Word) : (s.writeCtrl w).luma = s.luma := rfl
@[simp] theorem writeCtrl_grid (s : State) (w : Word) : (s.writeCtrl w).grid = s.grid := rfl
@[simp] theorem writeCtrl_resets (s : State) (w : Word) : (s.writeCtrl w).resets = s.resets := rfl
@[simp] theorem writeCtrl_dec0 (s : State) (w : Word) : (s.writeCtrl w).dec0 = s.dec0 := rfl
@[simp] theorem writeCtrl_dec1 (s : State) (w : Word) : (s.writeCtrl w).dec1 = s.dec1 := rfl
@[simp] theorem writeCtrl_enc0 (s : State) (w : Word) : (s.writeCtrl w).enc0 = s.enc0 := rfl
@[simp] theorem writeCtrl_enc1 (s : State) (w : Word) : (s.writeCtrl w).enc1 = s.enc1 := rfl
@[simp] theorem writeCtrl_ramp (s : State) (w : Word) : (s.writeCtrl w).ramp = s.ramp := rfl
@[simp] theorem writeCtrl_mem (s : State) (w : Word) : (s.writeCtrl w).mem = s.mem := rfl
@[simp] theorem writeCtrl_noResponse (s : State) (w : Word) : (s.writeCtrl w).noResponse = s.noResponse := rfl
@[simp] theorem writeCtrl_inputs (s : State) (w : Word) : (s.writeCtrl w).inputs = s.inputs := rfl
@[simp] theorem writeCtrl_readData (s : State) (w : Word) : (s.writeCtrl w).readData = s.readData := rfl

/-! `State.writeStatus` (rule R174). -/

@[simp] theorem writeStatus_ieDone (s : State) (w : Word) : (s.writeStatus w).ieDone = s.ieDone := rfl
@[simp] theorem writeStatus_ieErr (s : State) (w : Word) : (s.writeStatus w).ieErr = s.ieErr := rfl
@[simp] theorem writeStatus_gvalid (s : State) (w : Word) : (s.writeStatus w).gvalid = s.gvalid := rfl
@[simp] theorem writeStatus_phase (s : State) (w : Word) : (s.writeStatus w).phase = s.phase := rfl
@[simp] theorem writeStatus_done (s : State) (w : Word) : (s.writeStatus w).done = (s.done && !w.getLsbD 1) := rfl
@[simp] theorem writeStatus_err (s : State) (w : Word) : (s.writeStatus w).err = (s.err && !w.getLsbD 2) := rfl
@[simp] theorem writeStatus_ovr (s : State) (w : Word) : (s.writeStatus w).ovr = (s.ovr && !w.getLsbD 3) := rfl
@[simp] theorem writeStatus_errCode (s : State) (w : Word) : (s.writeStatus w).errCode = if w.getLsbD 2 then 0#4 else s.errCode := rfl
@[simp] theorem writeStatus_cmd (s : State) (w : Word) : (s.writeStatus w).cmd = s.cmd := rfl
@[simp] theorem writeStatus_src (s : State) (w : Word) : (s.writeStatus w).src = s.src := rfl
@[simp] theorem writeStatus_dst (s : State) (w : Word) : (s.writeStatus w).dst = s.dst := rfl
@[simp] theorem writeStatus_count (s : State) (w : Word) : (s.writeStatus w).count = s.count := rfl
@[simp] theorem writeStatus_progress (s : State) (w : Word) : (s.writeStatus w).progress = s.progress := rfl
@[simp] theorem writeStatus_errAddr (s : State) (w : Word) : (s.writeStatus w).errAddr = s.errAddr := rfl
@[simp] theorem writeStatus_tabSel (s : State) (w : Word) : (s.writeStatus w).tabSel = s.tabSel := rfl
@[simp] theorem writeStatus_tabIdx (s : State) (w : Word) : (s.writeStatus w).tabIdx = s.tabIdx := rfl
@[simp] theorem writeStatus_m0 (s : State) (w : Word) : (s.writeStatus w).m0 = s.m0 := rfl
@[simp] theorem writeStatus_m1 (s : State) (w : Word) : (s.writeStatus w).m1 = s.m1 := rfl
@[simp] theorem writeStatus_m2 (s : State) (w : Word) : (s.writeStatus w).m2 = s.m2 := rfl
@[simp] theorem writeStatus_luma (s : State) (w : Word) : (s.writeStatus w).luma = s.luma := rfl
@[simp] theorem writeStatus_grid (s : State) (w : Word) : (s.writeStatus w).grid = s.grid := rfl
@[simp] theorem writeStatus_resets (s : State) (w : Word) : (s.writeStatus w).resets = s.resets := rfl
@[simp] theorem writeStatus_dec0 (s : State) (w : Word) : (s.writeStatus w).dec0 = s.dec0 := rfl
@[simp] theorem writeStatus_dec1 (s : State) (w : Word) : (s.writeStatus w).dec1 = s.dec1 := rfl
@[simp] theorem writeStatus_enc0 (s : State) (w : Word) : (s.writeStatus w).enc0 = s.enc0 := rfl
@[simp] theorem writeStatus_enc1 (s : State) (w : Word) : (s.writeStatus w).enc1 = s.enc1 := rfl
@[simp] theorem writeStatus_ramp (s : State) (w : Word) : (s.writeStatus w).ramp = s.ramp := rfl
@[simp] theorem writeStatus_mem (s : State) (w : Word) : (s.writeStatus w).mem = s.mem := rfl
@[simp] theorem writeStatus_noResponse (s : State) (w : Word) : (s.writeStatus w).noResponse = s.noResponse := rfl
@[simp] theorem writeStatus_inputs (s : State) (w : Word) : (s.writeStatus w).inputs = s.inputs := rfl
@[simp] theorem writeStatus_readData (s : State) (w : Word) : (s.writeStatus w).readData = s.readData := rfl

/-! `State.advanceTable` (rule R176). -/

@[simp] theorem advanceTable_ieDone (s : State) : (s.advanceTable).ieDone = s.ieDone := rfl
@[simp] theorem advanceTable_ieErr (s : State) : (s.advanceTable).ieErr = s.ieErr := rfl
@[simp] theorem advanceTable_gvalid (s : State) : (s.advanceTable).gvalid = s.gvalid := rfl
@[simp] theorem advanceTable_phase (s : State) : (s.advanceTable).phase = s.phase := rfl
@[simp] theorem advanceTable_done (s : State) : (s.advanceTable).done = s.done := rfl
@[simp] theorem advanceTable_err (s : State) : (s.advanceTable).err = s.err := rfl
@[simp] theorem advanceTable_ovr (s : State) : (s.advanceTable).ovr = s.ovr := rfl
@[simp] theorem advanceTable_errCode (s : State) : (s.advanceTable).errCode = s.errCode := rfl
@[simp] theorem advanceTable_cmd (s : State) : (s.advanceTable).cmd = s.cmd := rfl
@[simp] theorem advanceTable_src (s : State) : (s.advanceTable).src = s.src := rfl
@[simp] theorem advanceTable_dst (s : State) : (s.advanceTable).dst = s.dst := rfl
@[simp] theorem advanceTable_count (s : State) : (s.advanceTable).count = s.count := rfl
@[simp] theorem advanceTable_progress (s : State) : (s.advanceTable).progress = s.progress := rfl
@[simp] theorem advanceTable_errAddr (s : State) : (s.advanceTable).errAddr = s.errAddr := rfl
@[simp] theorem advanceTable_tabSel (s : State) : (s.advanceTable).tabSel = s.tabSel := rfl
@[simp] theorem advanceTable_tabIdx (s : State) : (s.advanceTable).tabIdx = s.tabIdx + 1#15 := rfl
@[simp] theorem advanceTable_m0 (s : State) : (s.advanceTable).m0 = s.m0 := rfl
@[simp] theorem advanceTable_m1 (s : State) : (s.advanceTable).m1 = s.m1 := rfl
@[simp] theorem advanceTable_m2 (s : State) : (s.advanceTable).m2 = s.m2 := rfl
@[simp] theorem advanceTable_luma (s : State) : (s.advanceTable).luma = s.luma := rfl
@[simp] theorem advanceTable_grid (s : State) : (s.advanceTable).grid = s.grid := rfl
@[simp] theorem advanceTable_resets (s : State) : (s.advanceTable).resets = s.resets := rfl
@[simp] theorem advanceTable_dec0 (s : State) : (s.advanceTable).dec0 = s.dec0 := rfl
@[simp] theorem advanceTable_dec1 (s : State) : (s.advanceTable).dec1 = s.dec1 := rfl
@[simp] theorem advanceTable_enc0 (s : State) : (s.advanceTable).enc0 = s.enc0 := rfl
@[simp] theorem advanceTable_enc1 (s : State) : (s.advanceTable).enc1 = s.enc1 := rfl
@[simp] theorem advanceTable_ramp (s : State) : (s.advanceTable).ramp = s.ramp := rfl
@[simp] theorem advanceTable_mem (s : State) : (s.advanceTable).mem = s.mem := rfl
@[simp] theorem advanceTable_noResponse (s : State) : (s.advanceTable).noResponse = s.noResponse := rfl
@[simp] theorem advanceTable_inputs (s : State) : (s.advanceTable).inputs = s.inputs := rfl
@[simp] theorem advanceTable_readData (s : State) : (s.advanceTable).readData = s.readData := rfl

/-! `State.withCoef`: the fields it leaves. -/

@[simp] theorem withCoef_ieDone (s : State) (m i j : Fin 3) (w : Word) : (s.withCoef m i j w).ieDone = s.ieDone := by unfold State.withCoef; split <;> rfl
@[simp] theorem withCoef_ieErr (s : State) (m i j : Fin 3) (w : Word) : (s.withCoef m i j w).ieErr = s.ieErr := by unfold State.withCoef; split <;> rfl
@[simp] theorem withCoef_gvalid (s : State) (m i j : Fin 3) (w : Word) : (s.withCoef m i j w).gvalid = s.gvalid := by unfold State.withCoef; split <;> rfl
@[simp] theorem withCoef_phase (s : State) (m i j : Fin 3) (w : Word) : (s.withCoef m i j w).phase = s.phase := by unfold State.withCoef; split <;> rfl
@[simp] theorem withCoef_done (s : State) (m i j : Fin 3) (w : Word) : (s.withCoef m i j w).done = s.done := by unfold State.withCoef; split <;> rfl
@[simp] theorem withCoef_err (s : State) (m i j : Fin 3) (w : Word) : (s.withCoef m i j w).err = s.err := by unfold State.withCoef; split <;> rfl
@[simp] theorem withCoef_ovr (s : State) (m i j : Fin 3) (w : Word) : (s.withCoef m i j w).ovr = s.ovr := by unfold State.withCoef; split <;> rfl
@[simp] theorem withCoef_errCode (s : State) (m i j : Fin 3) (w : Word) : (s.withCoef m i j w).errCode = s.errCode := by unfold State.withCoef; split <;> rfl
@[simp] theorem withCoef_cmd (s : State) (m i j : Fin 3) (w : Word) : (s.withCoef m i j w).cmd = s.cmd := by unfold State.withCoef; split <;> rfl
@[simp] theorem withCoef_src (s : State) (m i j : Fin 3) (w : Word) : (s.withCoef m i j w).src = s.src := by unfold State.withCoef; split <;> rfl
@[simp] theorem withCoef_dst (s : State) (m i j : Fin 3) (w : Word) : (s.withCoef m i j w).dst = s.dst := by unfold State.withCoef; split <;> rfl
@[simp] theorem withCoef_count (s : State) (m i j : Fin 3) (w : Word) : (s.withCoef m i j w).count = s.count := by unfold State.withCoef; split <;> rfl
@[simp] theorem withCoef_progress (s : State) (m i j : Fin 3) (w : Word) : (s.withCoef m i j w).progress = s.progress := by unfold State.withCoef; split <;> rfl
@[simp] theorem withCoef_errAddr (s : State) (m i j : Fin 3) (w : Word) : (s.withCoef m i j w).errAddr = s.errAddr := by unfold State.withCoef; split <;> rfl
@[simp] theorem withCoef_tabSel (s : State) (m i j : Fin 3) (w : Word) : (s.withCoef m i j w).tabSel = s.tabSel := by unfold State.withCoef; split <;> rfl
@[simp] theorem withCoef_tabIdx (s : State) (m i j : Fin 3) (w : Word) : (s.withCoef m i j w).tabIdx = s.tabIdx := by unfold State.withCoef; split <;> rfl
@[simp] theorem withCoef_luma (s : State) (m i j : Fin 3) (w : Word) : (s.withCoef m i j w).luma = s.luma := by unfold State.withCoef; split <;> rfl
@[simp] theorem withCoef_grid (s : State) (m i j : Fin 3) (w : Word) : (s.withCoef m i j w).grid = s.grid := by unfold State.withCoef; split <;> rfl
@[simp] theorem withCoef_resets (s : State) (m i j : Fin 3) (w : Word) : (s.withCoef m i j w).resets = s.resets := by unfold State.withCoef; split <;> rfl
@[simp] theorem withCoef_dec0 (s : State) (m i j : Fin 3) (w : Word) : (s.withCoef m i j w).dec0 = s.dec0 := by unfold State.withCoef; split <;> rfl
@[simp] theorem withCoef_dec1 (s : State) (m i j : Fin 3) (w : Word) : (s.withCoef m i j w).dec1 = s.dec1 := by unfold State.withCoef; split <;> rfl
@[simp] theorem withCoef_enc0 (s : State) (m i j : Fin 3) (w : Word) : (s.withCoef m i j w).enc0 = s.enc0 := by unfold State.withCoef; split <;> rfl
@[simp] theorem withCoef_enc1 (s : State) (m i j : Fin 3) (w : Word) : (s.withCoef m i j w).enc1 = s.enc1 := by unfold State.withCoef; split <;> rfl
@[simp] theorem withCoef_ramp (s : State) (m i j : Fin 3) (w : Word) : (s.withCoef m i j w).ramp = s.ramp := by unfold State.withCoef; split <;> rfl
@[simp] theorem withCoef_mem (s : State) (m i j : Fin 3) (w : Word) : (s.withCoef m i j w).mem = s.mem := by unfold State.withCoef; split <;> rfl
@[simp] theorem withCoef_noResponse (s : State) (m i j : Fin 3) (w : Word) : (s.withCoef m i j w).noResponse = s.noResponse := by unfold State.withCoef; split <;> rfl
@[simp] theorem withCoef_inputs (s : State) (m i j : Fin 3) (w : Word) : (s.withCoef m i j w).inputs = s.inputs := by unfold State.withCoef; split <;> rfl
@[simp] theorem withCoef_readData (s : State) (m i j : Fin 3) (w : Word) : (s.withCoef m i j w).readData = s.readData := by unfold State.withCoef; split <;> rfl

/-! `State.setTableWord`: the fields it leaves. -/

@[simp] theorem setTableWord_ieDone (s : State) (sel : BitVec 3) (x : Nat) (w : Word) : (s.setTableWord sel x w).ieDone = s.ieDone := by unfold State.setTableWord; split <;> rfl
@[simp] theorem setTableWord_ieErr (s : State) (sel : BitVec 3) (x : Nat) (w : Word) : (s.setTableWord sel x w).ieErr = s.ieErr := by unfold State.setTableWord; split <;> rfl
@[simp] theorem setTableWord_gvalid (s : State) (sel : BitVec 3) (x : Nat) (w : Word) : (s.setTableWord sel x w).gvalid = s.gvalid := by unfold State.setTableWord; split <;> rfl
@[simp] theorem setTableWord_phase (s : State) (sel : BitVec 3) (x : Nat) (w : Word) : (s.setTableWord sel x w).phase = s.phase := by unfold State.setTableWord; split <;> rfl
@[simp] theorem setTableWord_done (s : State) (sel : BitVec 3) (x : Nat) (w : Word) : (s.setTableWord sel x w).done = s.done := by unfold State.setTableWord; split <;> rfl
@[simp] theorem setTableWord_err (s : State) (sel : BitVec 3) (x : Nat) (w : Word) : (s.setTableWord sel x w).err = s.err := by unfold State.setTableWord; split <;> rfl
@[simp] theorem setTableWord_ovr (s : State) (sel : BitVec 3) (x : Nat) (w : Word) : (s.setTableWord sel x w).ovr = s.ovr := by unfold State.setTableWord; split <;> rfl
@[simp] theorem setTableWord_errCode (s : State) (sel : BitVec 3) (x : Nat) (w : Word) : (s.setTableWord sel x w).errCode = s.errCode := by unfold State.setTableWord; split <;> rfl
@[simp] theorem setTableWord_cmd (s : State) (sel : BitVec 3) (x : Nat) (w : Word) : (s.setTableWord sel x w).cmd = s.cmd := by unfold State.setTableWord; split <;> rfl
@[simp] theorem setTableWord_src (s : State) (sel : BitVec 3) (x : Nat) (w : Word) : (s.setTableWord sel x w).src = s.src := by unfold State.setTableWord; split <;> rfl
@[simp] theorem setTableWord_dst (s : State) (sel : BitVec 3) (x : Nat) (w : Word) : (s.setTableWord sel x w).dst = s.dst := by unfold State.setTableWord; split <;> rfl
@[simp] theorem setTableWord_count (s : State) (sel : BitVec 3) (x : Nat) (w : Word) : (s.setTableWord sel x w).count = s.count := by unfold State.setTableWord; split <;> rfl
@[simp] theorem setTableWord_progress (s : State) (sel : BitVec 3) (x : Nat) (w : Word) : (s.setTableWord sel x w).progress = s.progress := by unfold State.setTableWord; split <;> rfl
@[simp] theorem setTableWord_errAddr (s : State) (sel : BitVec 3) (x : Nat) (w : Word) : (s.setTableWord sel x w).errAddr = s.errAddr := by unfold State.setTableWord; split <;> rfl
@[simp] theorem setTableWord_tabSel (s : State) (sel : BitVec 3) (x : Nat) (w : Word) : (s.setTableWord sel x w).tabSel = s.tabSel := by unfold State.setTableWord; split <;> rfl
@[simp] theorem setTableWord_tabIdx (s : State) (sel : BitVec 3) (x : Nat) (w : Word) : (s.setTableWord sel x w).tabIdx = s.tabIdx := by unfold State.setTableWord; split <;> rfl
@[simp] theorem setTableWord_m0 (s : State) (sel : BitVec 3) (x : Nat) (w : Word) : (s.setTableWord sel x w).m0 = s.m0 := by unfold State.setTableWord; split <;> rfl
@[simp] theorem setTableWord_m1 (s : State) (sel : BitVec 3) (x : Nat) (w : Word) : (s.setTableWord sel x w).m1 = s.m1 := by unfold State.setTableWord; split <;> rfl
@[simp] theorem setTableWord_m2 (s : State) (sel : BitVec 3) (x : Nat) (w : Word) : (s.setTableWord sel x w).m2 = s.m2 := by unfold State.setTableWord; split <;> rfl
@[simp] theorem setTableWord_luma (s : State) (sel : BitVec 3) (x : Nat) (w : Word) : (s.setTableWord sel x w).luma = s.luma := by unfold State.setTableWord; split <;> rfl
@[simp] theorem setTableWord_resets (s : State) (sel : BitVec 3) (x : Nat) (w : Word) : (s.setTableWord sel x w).resets = s.resets := by unfold State.setTableWord; split <;> rfl
@[simp] theorem setTableWord_mem (s : State) (sel : BitVec 3) (x : Nat) (w : Word) : (s.setTableWord sel x w).mem = s.mem := by unfold State.setTableWord; split <;> rfl
@[simp] theorem setTableWord_noResponse (s : State) (sel : BitVec 3) (x : Nat) (w : Word) : (s.setTableWord sel x w).noResponse = s.noResponse := by unfold State.setTableWord; split <;> rfl
@[simp] theorem setTableWord_inputs (s : State) (sel : BitVec 3) (x : Nat) (w : Word) : (s.setTableWord sel x w).inputs = s.inputs := by unfold State.setTableWord; split <;> rfl
@[simp] theorem setTableWord_readData (s : State) (sel : BitVec 3) (x : Nat) (w : Word) : (s.setTableWord sel x w).readData = s.readData := by unfold State.setTableWord; split <;> rfl

/-! `Command.start` and `Command.finishElement`: the fields they leave (rules R182, R186 and R187). -/

@[simp] theorem start_ieDone (c : Command) (s : State) : (c.start s).ieDone = s.ieDone := by
  unfold Command.start; dsimp only; split <;> rfl
@[simp] theorem start_ieErr (c : Command) (s : State) : (c.start s).ieErr = s.ieErr := by
  unfold Command.start; dsimp only; split <;> rfl
@[simp] theorem start_err (c : Command) (s : State) : (c.start s).err = s.err := by
  unfold Command.start; dsimp only; split <;> rfl
@[simp] theorem start_ovr (c : Command) (s : State) : (c.start s).ovr = s.ovr := by
  unfold Command.start; dsimp only; split <;> rfl
@[simp] theorem start_errCode (c : Command) (s : State) : (c.start s).errCode = s.errCode := by
  unfold Command.start; dsimp only; split <;> rfl
@[simp] theorem start_cmd (c : Command) (s : State) : (c.start s).cmd = s.cmd := by
  unfold Command.start; dsimp only; split <;> rfl
@[simp] theorem start_src (c : Command) (s : State) : (c.start s).src = s.src := by
  unfold Command.start; dsimp only; split <;> rfl
@[simp] theorem start_dst (c : Command) (s : State) : (c.start s).dst = s.dst := by
  unfold Command.start; dsimp only; split <;> rfl
@[simp] theorem start_count (c : Command) (s : State) : (c.start s).count = s.count := by
  unfold Command.start; dsimp only; split <;> rfl
@[simp] theorem start_progress (c : Command) (s : State) : (c.start s).progress = s.progress := by
  unfold Command.start; dsimp only; split <;> rfl
@[simp] theorem start_errAddr (c : Command) (s : State) : (c.start s).errAddr = s.errAddr := by
  unfold Command.start; dsimp only; split <;> rfl
@[simp] theorem start_tabSel (c : Command) (s : State) : (c.start s).tabSel = s.tabSel := by
  unfold Command.start; dsimp only; split <;> rfl
@[simp] theorem start_tabIdx (c : Command) (s : State) : (c.start s).tabIdx = s.tabIdx := by
  unfold Command.start; dsimp only; split <;> rfl
@[simp] theorem start_m0 (c : Command) (s : State) : (c.start s).m0 = s.m0 := by
  unfold Command.start; dsimp only; split <;> rfl
@[simp] theorem start_m1 (c : Command) (s : State) : (c.start s).m1 = s.m1 := by
  unfold Command.start; dsimp only; split <;> rfl
@[simp] theorem start_m2 (c : Command) (s : State) : (c.start s).m2 = s.m2 := by
  unfold Command.start; dsimp only; split <;> rfl
@[simp] theorem start_luma (c : Command) (s : State) : (c.start s).luma = s.luma := by
  unfold Command.start; dsimp only; split <;> rfl
@[simp] theorem start_grid (c : Command) (s : State) : (c.start s).grid = s.grid := by
  unfold Command.start; dsimp only; split <;> rfl
@[simp] theorem start_resets (c : Command) (s : State) : (c.start s).resets = s.resets := by
  unfold Command.start; dsimp only; split <;> rfl
@[simp] theorem start_dec0 (c : Command) (s : State) : (c.start s).dec0 = s.dec0 := by
  unfold Command.start; dsimp only; split <;> rfl
@[simp] theorem start_dec1 (c : Command) (s : State) : (c.start s).dec1 = s.dec1 := by
  unfold Command.start; dsimp only; split <;> rfl
@[simp] theorem start_enc0 (c : Command) (s : State) : (c.start s).enc0 = s.enc0 := by
  unfold Command.start; dsimp only; split <;> rfl
@[simp] theorem start_enc1 (c : Command) (s : State) : (c.start s).enc1 = s.enc1 := by
  unfold Command.start; dsimp only; split <;> rfl
@[simp] theorem start_ramp (c : Command) (s : State) : (c.start s).ramp = s.ramp := by
  unfold Command.start; dsimp only; split <;> rfl
@[simp] theorem start_mem (c : Command) (s : State) : (c.start s).mem = s.mem := by
  unfold Command.start; dsimp only; split <;> rfl
@[simp] theorem start_noResponse (c : Command) (s : State) : (c.start s).noResponse = s.noResponse := by
  unfold Command.start; dsimp only; split <;> rfl
@[simp] theorem start_inputs (c : Command) (s : State) : (c.start s).inputs = s.inputs := by
  unfold Command.start; dsimp only; split <;> rfl
@[simp] theorem start_readData (c : Command) (s : State) : (c.start s).readData = s.readData := by
  unfold Command.start; dsimp only; split <;> rfl
@[simp] theorem finishElement_ieDone (c : Command) (s : State) (e : Nat) (l : List Word) :
    (c.finishElement s e l).ieDone = s.ieDone := by
  unfold Command.finishElement; dsimp only; split <;> split <;> rfl
@[simp] theorem finishElement_ieErr (c : Command) (s : State) (e : Nat) (l : List Word) :
    (c.finishElement s e l).ieErr = s.ieErr := by
  unfold Command.finishElement; dsimp only; split <;> split <;> rfl
@[simp] theorem finishElement_err (c : Command) (s : State) (e : Nat) (l : List Word) :
    (c.finishElement s e l).err = s.err := by
  unfold Command.finishElement; dsimp only; split <;> split <;> rfl
@[simp] theorem finishElement_ovr (c : Command) (s : State) (e : Nat) (l : List Word) :
    (c.finishElement s e l).ovr = s.ovr := by
  unfold Command.finishElement; dsimp only; split <;> split <;> rfl
@[simp] theorem finishElement_errCode (c : Command) (s : State) (e : Nat) (l : List Word) :
    (c.finishElement s e l).errCode = s.errCode := by
  unfold Command.finishElement; dsimp only; split <;> split <;> rfl
@[simp] theorem finishElement_cmd (c : Command) (s : State) (e : Nat) (l : List Word) :
    (c.finishElement s e l).cmd = s.cmd := by
  unfold Command.finishElement; dsimp only; split <;> split <;> rfl
@[simp] theorem finishElement_src (c : Command) (s : State) (e : Nat) (l : List Word) :
    (c.finishElement s e l).src = s.src := by
  unfold Command.finishElement; dsimp only; split <;> split <;> rfl
@[simp] theorem finishElement_dst (c : Command) (s : State) (e : Nat) (l : List Word) :
    (c.finishElement s e l).dst = s.dst := by
  unfold Command.finishElement; dsimp only; split <;> split <;> rfl
@[simp] theorem finishElement_count (c : Command) (s : State) (e : Nat) (l : List Word) :
    (c.finishElement s e l).count = s.count := by
  unfold Command.finishElement; dsimp only; split <;> split <;> rfl
@[simp] theorem finishElement_errAddr (c : Command) (s : State) (e : Nat) (l : List Word) :
    (c.finishElement s e l).errAddr = s.errAddr := by
  unfold Command.finishElement; dsimp only; split <;> split <;> rfl
@[simp] theorem finishElement_tabSel (c : Command) (s : State) (e : Nat) (l : List Word) :
    (c.finishElement s e l).tabSel = s.tabSel := by
  unfold Command.finishElement; dsimp only; split <;> split <;> rfl
@[simp] theorem finishElement_tabIdx (c : Command) (s : State) (e : Nat) (l : List Word) :
    (c.finishElement s e l).tabIdx = s.tabIdx := by
  unfold Command.finishElement; dsimp only; split <;> split <;> rfl
@[simp] theorem finishElement_m0 (c : Command) (s : State) (e : Nat) (l : List Word) :
    (c.finishElement s e l).m0 = s.m0 := by
  unfold Command.finishElement; dsimp only; split <;> split <;> rfl
@[simp] theorem finishElement_m1 (c : Command) (s : State) (e : Nat) (l : List Word) :
    (c.finishElement s e l).m1 = s.m1 := by
  unfold Command.finishElement; dsimp only; split <;> split <;> rfl
@[simp] theorem finishElement_m2 (c : Command) (s : State) (e : Nat) (l : List Word) :
    (c.finishElement s e l).m2 = s.m2 := by
  unfold Command.finishElement; dsimp only; split <;> split <;> rfl
@[simp] theorem finishElement_luma (c : Command) (s : State) (e : Nat) (l : List Word) :
    (c.finishElement s e l).luma = s.luma := by
  unfold Command.finishElement; dsimp only; split <;> split <;> rfl
@[simp] theorem finishElement_resets (c : Command) (s : State) (e : Nat) (l : List Word) :
    (c.finishElement s e l).resets = s.resets := by
  unfold Command.finishElement; dsimp only; split <;> split <;> rfl
@[simp] theorem finishElement_dec0 (c : Command) (s : State) (e : Nat) (l : List Word) :
    (c.finishElement s e l).dec0 = s.dec0 := by
  unfold Command.finishElement; dsimp only; split <;> split <;> rfl
@[simp] theorem finishElement_dec1 (c : Command) (s : State) (e : Nat) (l : List Word) :
    (c.finishElement s e l).dec1 = s.dec1 := by
  unfold Command.finishElement; dsimp only; split <;> split <;> rfl
@[simp] theorem finishElement_enc0 (c : Command) (s : State) (e : Nat) (l : List Word) :
    (c.finishElement s e l).enc0 = s.enc0 := by
  unfold Command.finishElement; dsimp only; split <;> split <;> rfl
@[simp] theorem finishElement_enc1 (c : Command) (s : State) (e : Nat) (l : List Word) :
    (c.finishElement s e l).enc1 = s.enc1 := by
  unfold Command.finishElement; dsimp only; split <;> split <;> rfl
@[simp] theorem finishElement_ramp (c : Command) (s : State) (e : Nat) (l : List Word) :
    (c.finishElement s e l).ramp = s.ramp := by
  unfold Command.finishElement; dsimp only; split <;> split <;> rfl
@[simp] theorem finishElement_mem (c : Command) (s : State) (e : Nat) (l : List Word) :
    (c.finishElement s e l).mem = s.mem := by
  unfold Command.finishElement; dsimp only; split <;> split <;> rfl
@[simp] theorem finishElement_noResponse (c : Command) (s : State) (e : Nat) (l : List Word) :
    (c.finishElement s e l).noResponse = s.noResponse := by
  unfold Command.finishElement; dsimp only; split <;> split <;> rfl
@[simp] theorem finishElement_inputs (c : Command) (s : State) (e : Nat) (l : List Word) :
    (c.finishElement s e l).inputs = s.inputs := by
  unfold Command.finishElement; dsimp only; split <;> split <;> rfl
@[simp] theorem finishElement_readData (c : Command) (s : State) (e : Nat) (l : List Word) :
    (c.finishElement s e l).readData = s.readData := by
  unfold Command.finishElement; dsimp only; split <;> split <;> rfl

/-- The end of an element counts it (rule R186). -/
@[simp] theorem finishElement_progress (c : Command) (s : State) (e : Nat) (l : List Word) :
    (c.finishElement s e l).progress = s.progress + 1#32 := by
  unfold Command.finishElement; dsimp only; split <;> rfl

/-! The view BUSY of the phase (rule R38). -/

@[simp] theorem busy_idle (s : State) (h : s.phase = .idle) : s.busy = false := by simp [State.busy, h]

@[simp] theorem busy_run (s : State) (l : List Word) (k : Nat) (h : s.phase = .run l k) : s.busy = true := by
  simp [State.busy, h]

/-- STATUS.BUSY is 0 exactly in phase IDLE (rule R63). -/
theorem busy_eq_false_iff (s : State) : s.busy = false ↔ s.phase = .idle := by
  unfold State.busy; split <;> simp_all

end Sys2Proof.Machine
end

