-- ==== Sys2Proof/Laws/Memory.lean ====
section
/-! SUPPORT. The laws of the sparse stores: reading after writing, and that every write keeps the canonical form. -/

namespace Sys2Proof.Machine

variable {α : Type}

/-! Lookup. -/

@[simp] theorem cellGet_nil (a : Nat) : cellGet ([] : List (Nat × α)) a = none := rfl

@[simp] theorem cellGet_cons (k : Nat) (v : α) (l : List (Nat × α)) (a : Nat) :
    cellGet ((k, v) :: l) a = if k = a then some v else cellGet l a := rfl

theorem cellGet_cellErase_same (l : List (Nat × α)) (a : Nat) : cellGet (cellErase l a) a = none := by
  induction l with
  | nil => rfl
  | cons p l ih =>
    obtain ⟨k, v⟩ := p
    by_cases h : k = a
    · simpa [cellErase, List.filter_cons, h] using ih
    · simpa [cellErase, List.filter_cons, h] using ih

theorem cellGet_cellErase_other (l : List (Nat × α)) {a b : Nat} (h : b ≠ a) :
    cellGet (cellErase l a) b = cellGet l b := by
  induction l with
  | nil => rfl
  | cons p l ih =>
    obtain ⟨k, v⟩ := p
    by_cases hk : k = a
    · subst hk
      simpa [cellErase, List.filter_cons, Ne.symm h] using ih
    · simp only [cellErase, List.filter_cons, bne_iff_ne, ne_eq, hk, not_false_eq_true, if_true, cellGet_cons]
      simp only [cellErase] at ih
      rw [ih]

theorem cellGet_cellInsert_same (l : List (Nat × α)) (a : Nat) (v : α) (h : cellGet l a = none) :
    cellGet (cellInsert l a v) a = some v := by
  induction l with
  | nil => simp [cellInsert]
  | cons p l ih =>
    obtain ⟨k, u⟩ := p
    rw [cellGet_cons] at h
    unfold cellInsert
    by_cases hk : k = a
    · simp [hk] at h
    · rw [if_neg hk] at h
      split
      · simp
      · simp [hk, ih h]

theorem cellGet_cellInsert_other (l : List (Nat × α)) {a b : Nat} (v : α) (h : b ≠ a) :
    cellGet (cellInsert l a v) b = cellGet l b := by
  induction l with
  | nil => simp [cellInsert, Ne.symm h]
  | cons p l ih =>
    obtain ⟨k, u⟩ := p
    unfold cellInsert
    split
    · simp [Ne.symm h]
    · simp [ih]

/-- Reading back the key just written. -/
theorem cellGet_cellSet_same (l : List (Nat × α)) (a : Nat) (v : α) : cellGet (cellSet l a v) a = some v :=
  cellGet_cellInsert_same _ _ _ (cellGet_cellErase_same l a)

/-- Every other key reads as before. -/
theorem cellGet_cellSet_other (l : List (Nat × α)) {a b : Nat} (v : α) (h : b ≠ a) :
    cellGet (cellSet l a v) b = cellGet l b := by
  rw [cellSet, cellGet_cellInsert_other _ _ h, cellGet_cellErase_other _ h]

/-! The canonical form. -/

theorem mem_cellErase {l : List (Nat × α)} {a : Nat} {p : Nat × α} : p ∈ cellErase l a ↔ p ∈ l ∧ p.1 ≠ a := by
  simp [cellErase]

theorem rising_cellErase {l : List (Nat × α)} (a : Nat) (h : rising l) : rising (cellErase l a) := h.filter _

theorem mem_cellInsert {l : List (Nat × α)} {a : Nat} {v : α} {p : Nat × α} (h : p ∈ cellInsert l a v) :
    p = (a, v) ∨ p ∈ l := by
  induction l with
  | nil => simpa [cellInsert] using h
  | cons q l ih =>
    unfold cellInsert at h
    split at h
    · simpa using h
    · rcases List.mem_cons.mp h with h | h
      · exact .inr (h ▸ List.mem_cons_self ..)
      · exact (ih h).imp id (List.mem_cons_of_mem _)

theorem rising_cellInsert {l : List (Nat × α)} {a : Nat} (v : α) (h : rising l) (hne : ∀ p ∈ l, p.1 ≠ a) :
    rising (cellInsert l a v) := by
  induction l with
  | nil => simp [cellInsert, rising]
  | cons q l ih =>
    obtain ⟨hq, hl⟩ := List.pairwise_cons.mp h
    unfold cellInsert
    split
    · rename_i hlt
      exact List.pairwise_cons.mpr ⟨by
        rintro p hp
        rcases List.mem_cons.mp hp with rfl | hp
        · exact hlt
        · exact Nat.lt_trans hlt (hq p hp), h⟩
    · rename_i hge
      have hqa : q.1 < a := by
        have := hne q (List.mem_cons_self ..)
        omega
      refine List.pairwise_cons.mpr ⟨fun p hp => ?_, ih hl fun p hp => hne p (List.mem_cons_of_mem _ hp)⟩
      rcases mem_cellInsert hp with rfl | hp
      · exact hqa
      · exact hq p hp

theorem rising_cellSet {l : List (Nat × α)} (a : Nat) (v : α) (h : rising l) : rising (cellSet l a v) :=
  rising_cellInsert v (rising_cellErase a h) fun _ hp => (mem_cellErase.mp hp).2

theorem mem_cellSet {l : List (Nat × α)} {a : Nat} {v : α} {p : Nat × α} (h : p ∈ cellSet l a v) :
    p = (a, v) ∨ p ∈ l :=
  (mem_cellInsert h).imp id fun h => (mem_cellErase.mp h).1

/-- Writing a cell of the grid keeps the canonical form. -/
theorem gridWf_cellSet {g : List (Nat × Word)} {n : Nat} (w : Word) (h : gridWf g) (hn : n < Config.cells) :
    gridWf (cellSet g n w) :=
  ⟨rising_cellSet n w h.1, fun p hp => by
    rcases mem_cellSet hp with rfl | hp
    · exact hn
    · exact h.2 p hp⟩

/-! Bytes of system memory. -/

@[simp] theorem byte_setByte_same (m : Memory) (a : Nat) (b : Byte) : (m.setByte a b).byte a = b := by
  unfold Memory.setByte Memory.byte
  split
  · rename_i h; simp [cellGet_cellErase_same, h]
  · simp [cellGet_cellSet_same]

theorem byte_setByte_other (m : Memory) {a x : Nat} (b : Byte) (h : x ≠ a) : (m.setByte a b).byte x = m.byte x := by
  unfold Memory.setByte Memory.byte
  split
  · rw [cellGet_cellErase_other _ h]
  · rw [cellGet_cellSet_other _ _ h]

/-- Storing a byte keeps the canonical form. -/
theorem wf_setByte {m : Memory} {a : Nat} (b : Byte) (h : m.wf) (ha : a < Config.addresses) : (m.setByte a b).wf := by
  unfold Memory.setByte
  split
  · exact ⟨rising_cellErase a h.1, fun p hp => h.2 p (mem_cellErase.mp hp).1⟩
  · rename_i hb
    refine ⟨rising_cellSet a b h.1, fun p hp => ?_⟩
    rcases mem_cellSet hp with rfl | hp
    · exact ⟨ha, hb⟩
    · exact h.2 p hp

/-! Words of system memory. -/

/-- A byte of a word just stored. -/
theorem byte_setWord_inside (m : Memory) (a : Nat) (w : Word) {k : Nat} (h : k < 4) :
    (m.setWord a w).byte (a + k) = byteOf w k := by
  unfold Memory.setWord
  obtain rfl | rfl | rfl | rfl : k = 0 ∨ k = 1 ∨ k = 2 ∨ k = 3 := by omega
  · rw [byte_setByte_other _ _ (by omega), byte_setByte_other _ _ (by omega), byte_setByte_other _ _ (by omega)]
    exact byte_setByte_same ..
  · rw [byte_setByte_other _ _ (by omega), byte_setByte_other _ _ (by omega)]
    exact byte_setByte_same ..
  · rw [byte_setByte_other _ _ (by omega)]
    exact byte_setByte_same ..
  · exact byte_setByte_same ..

/-- A byte outside a word just stored reads as before. -/
theorem byte_setWord_outside (m : Memory) {a x : Nat} (w : Word) (h : x < a ∨ a + 4 ≤ x) :
    (m.setWord a w).byte x = m.byte x := by
  unfold Memory.setWord
  rw [byte_setByte_other _ _ (by omega), byte_setByte_other _ _ (by omega), byte_setByte_other _ _ (by omega),
    byte_setByte_other _ _ (by omega)]

/-- The four bytes of a word make the word (rule R102). -/
theorem wordOf_bytes (w : Word) : wordOf (byteOf w 0) (byteOf w 1) (byteOf w 2) (byteOf w 3) = w := by
  apply BitVec.eq_of_getLsbD_eq
  intro i hi
  interval_cases i <;> simp only [wordOf, byteOf, BitVec.getLsbD_append, BitVec.getLsbD_extractLsb'] <;> simp

/-- The bytes of a word made of four bytes (rule R102). -/
theorem byteOf_wordOf (b0 b1 b2 b3 : Byte) :
    byteOf (wordOf b0 b1 b2 b3) 0 = b0 ∧ byteOf (wordOf b0 b1 b2 b3) 1 = b1 ∧
      byteOf (wordOf b0 b1 b2 b3) 2 = b2 ∧ byteOf (wordOf b0 b1 b2 b3) 3 = b3 := by
  refine ⟨?_, ?_, ?_, ?_⟩ <;> apply BitVec.eq_of_getLsbD_eq <;> intro i hi <;>
    interval_cases i <;> simp only [wordOf, byteOf, BitVec.getLsbD_append, BitVec.getLsbD_extractLsb'] <;> simp

/-- Reading back the word just stored. -/
@[simp] theorem word_setWord_same (m : Memory) (a : Nat) (w : Word) : (m.setWord a w).word a = w := by
  have h := fun k hk => byte_setWord_inside m a w (k := k) hk
  unfold Memory.word
  rw [show (m.setWord a w).byte a = byteOf w 0 from h 0 (by omega), h 1 (by omega), h 2 (by omega), h 3 (by omega)]
  exact wordOf_bytes w

/-- A word that does not meet the word just stored reads as before. -/
theorem word_setWord_disjoint (m : Memory) {a x : Nat} (w : Word) (h : x + 4 ≤ a ∨ a + 4 ≤ x) :
    (m.setWord a w).word x = m.word x := by
  unfold Memory.word
  rw [byte_setWord_outside _ _ (by omega), byte_setWord_outside _ _ (by omega), byte_setWord_outside _ _ (by omega),
    byte_setWord_outside _ _ (by omega)]

/-- Storing a word inside the address space keeps the canonical form. -/
theorem wf_setWord {m : Memory} {a : Nat} (w : Word) (h : m.wf) (ha : a + 3 < Config.addresses) : (m.setWord a w).wf :=
  wf_setByte _ (wf_setByte _ (wf_setByte _ (wf_setByte _ h (by omega)) (by omega)) (by omega)) ha

/-- The memory of the reset state is in canonical form. -/
theorem reset_memory_wf : State.reset.mem.wf := by decide

/-! The grid. -/

@[simp] theorem gridAt_setGrid_same (s : State) (n : Nat) (w : Word) : (s.setGrid n w).gridAt n = w := by
  simp [State.gridAt, cellGet_cellSet_same]

theorem gridAt_setGrid_other (s : State) {n m : Nat} (w : Word) (h : m ≠ n) :
    (s.setGrid n w).gridAt m = s.gridAt m := by
  simp [State.gridAt, cellGet_cellSet_other _ _ h]

end Sys2Proof.Machine
end

