-- ==== Sys2Proof/Laws/Ops.lean ====
section
/-! SUPPORT. What each shared operation can do, said once: a claim cites these lemmas instead of unfolding the operation. -/

namespace Sys2Proof.Machine

/-! The dispatch. -/

/-- Every arm of `exec` is the next step of its command. -/
theorem exec_eq_step (i : Instr) (s : State) : exec i s = (commandOf i).step s := by cases i <;> rfl

/-- A command's word is its encoding. -/
@[simp] theorem commandOf_word (i : Instr) : (commandOf i).word = encode i := by cases i <;> rfl

/-- A command passes validation step 1 exactly when it is well formed (rule R151). -/
@[simp] theorem commandOf_legal (i : Instr) : (commandOf i).legal = i.wf := by cases i <;> rfl

/-! The memory master port. -/

theorem portFault_eq_none_iff (a : Nat) : portFault a = none ↔ a < 2 ^ 32 ∧ a % 4 = 0 := by
  unfold portFault
  split
  · simp only [Config.addresses] at *; simp; omega
  · simp only [Config.addresses] at *; split <;> simp <;> omega

/-- A read answers a word exactly where the port is good, and answers the word stored there (rule R104). -/
theorem memRead_eq_ok_iff (s : State) (a : Nat) (w : Word) :
    s.memRead a = .ok w ↔ portGood s a ∧ w = s.mem.word a := by
  have hn := portFault_eq_none_iff a
  unfold State.memRead portGood
  split
  · rename_i h; simp [h] at hn; simp; omega
  · rename_i h
    obtain ⟨h1, h2⟩ := hn.mp h
    by_cases hb : s.busOk a = true
    · rw [if_pos hb]
      exact ⟨fun h => ⟨⟨h1, h2, hb⟩, (PortReply.ok.inj h).symm⟩, fun h => congrArg _ h.2.symm⟩
    · rw [if_neg hb]
      exact ⟨nofun, fun h => absurd h.1.2.2 hb⟩

/-- A read gets an error response exactly where BUS_OK is false (rule R104). -/
theorem memRead_eq_busError_iff (s : State) (a : Nat) :
    s.memRead a = .busError ↔ a < 2 ^ 32 ∧ a % 4 = 0 ∧ s.busOk a = false := by
  have hn := portFault_eq_none_iff a
  unfold State.memRead
  split
  · rename_i h; simp [h] at hn; simp; omega
  · rename_i h
    have := hn.mp h
    split <;> simp_all

/-- A write is performed exactly where the port is good, and stores the word (rule R105). -/
theorem memWrite_eq_ok_iff (s t : State) (a : Nat) (w : Word) :
    s.memWrite a w = .ok t ↔ portGood s a ∧ t = { s with mem := s.mem.setWord a w } := by
  have hn := portFault_eq_none_iff a
  unfold State.memWrite portGood
  split
  · rename_i h; simp [h] at hn; simp; omega
  · rename_i h
    obtain ⟨h1, h2⟩ := hn.mp h
    by_cases hb : s.busOk a = true
    · rw [if_pos hb]
      exact ⟨fun h => ⟨⟨h1, h2, hb⟩, (PortReply.ok.inj h).symm⟩, fun h => congrArg _ h.2.symm⟩
    · rw [if_neg hb]
      exact ⟨nofun, fun h => absurd h.1.2.2 hb⟩

/-- A write gets an error response exactly where BUS_OK is false (rule R105). -/
theorem memWrite_eq_busError_iff (s : State) (a : Nat) (w : Word) :
    s.memWrite a w = .busError ↔ a < 2 ^ 32 ∧ a % 4 = 0 ∧ s.busOk a = false := by
  have hn := portFault_eq_none_iff a
  unfold State.memWrite
  split
  · rename_i h; simp [h] at hn; simp; omega
  · rename_i h
    have := hn.mp h
    split <;> simp_all

/-- An access faults exactly where the engine can make none (log entry 9). -/
theorem memRead_eq_fault_iff (s : State) (a : Nat) (f : Fault) : s.memRead a = .fault f ↔ portFault a = some f := by
  unfold State.memRead
  split
  · simp_all
  · split <;> simp_all

theorem memWrite_eq_fault_iff (s : State) (a : Nat) (w : Word) (f : Fault) :
    s.memWrite a w = .fault f ↔ portFault a = some f := by
  unfold State.memWrite
  split
  · simp_all
  · split <;> simp_all

/-- `{ s with mem := m.setWord a w }` stores a word. -/
theorem storesWord_setWord (s : State) (a : Nat) (w : Word) :
    storesWord s { s with mem := s.mem.setWord a w } a w :=
  ⟨rfl, word_setWord_same .., fun _ h => byte_setWord_outside _ _ h⟩

/-- `setGrid` stores a cell. -/
theorem storesCell_setGrid (s : State) (n : Nat) (w : Word) : storesCell s (s.setGrid n w) n w :=
  ⟨rfl, gridAt_setGrid_same .., fun _ h => gridAt_setGrid_other _ _ h⟩

/-! Acceptance. -/

/-- Idle, a command's step is its acceptance. -/
theorem step_idle (c : Command) (s : State) (h : s.phase = .idle) : c.step s = .next (c.begin s) := by
  simp [Command.step, h]

/-- Running, a command's step is an engine step. -/
theorem step_run (c : Command) (s : State) {l : List Word} {k : Nat} (h : s.phase = .run l k) :
    c.step s = c.engineStep s l k := by
  simp [Command.step, h]

/-- Acceptance rejects with the first error, or starts the command (rules R180 to R182). -/
theorem begin_cases (c : Command) (s : State) :
    (∃ e a, c.firstError (s.accept c.word) = some (e, a) ∧ c.begin s = (s.accept c.word).raise e a) ∨
      (c.firstError (s.accept c.word) = none ∧ c.begin s = c.start (s.accept c.word)) := by
  cases h : c.firstError (s.accept c.word) with
  | none => exact .inr ⟨rfl, by simp only [Command.begin, h]⟩
  | some p => exact .inl ⟨p.1, p.2, rfl, by simp only [Command.begin, h]⟩

/-- A buffer is misaligned exactly when the command has it and its base is no multiple of the element size (rule R110). -/
theorem misalignedBuffer_iff (buf : Option Elem) (base : Word) :
    misalignedBuffer buf base = true ↔ ∃ el, buf = some el ∧ base.toNat % el.size ≠ 0 := by
  cases buf <;> simp [misalignedBuffer]

/-- A buffer is beyond the top exactly when the command has it and it ends above 2^32 (rule R112). -/
theorem beyondTop_iff (buf : Option Elem) (base : Word) (n : Nat) :
    beyondTop buf base n = true ↔ ∃ el, buf = some el ∧ 2 ^ 32 < base.toNat + el.size * n := by
  cases buf with
  | none => simp [beyondTop]
  | some el =>
    refine ⟨fun h => ⟨el, rfl, of_decide_eq_true h⟩, ?_⟩
    rintro ⟨_, he, h⟩
    cases he
    exact decide_eq_true h

/-- Buffers that are aligned and in range overlap badly exactly when they are not good (rule R113). -/
theorem badOverlap_iff (si di : Elem) (src dst : Word) (n : Nat) (h1 : src.toNat % si.size = 0)
    (h2 : dst.toNat % di.size = 0) (h3 : src.toNat + si.size * n ≤ 2 ^ 32) (h4 : dst.toNat + di.size * n ≤ 2 ^ 32) :
    badOverlap (some si) (some di) src dst n = true ↔ ¬buffersGood si.size di.size src.toNat dst.toNat n := by
  have e : src = dst ↔ src.toNat = dst.toNat := BitVec.toNat_inj.symm
  have es : si = di ↔ si.size = di.size := by cases si <;> cases di <;> simp [Elem.size]
  have hb : badOverlap (some si) (some di) src dst n = true ↔
      0 < n ∧ ¬(src.toNat = dst.toNat ∧ si.size = di.size) ∧ src.toNat < dst.toNat + di.size * n ∧
        dst.toNat < src.toNat + si.size * n := by
    simp only [badOverlap, ← e, ← es, Bool.and_eq_true, decide_eq_true_eq, Bool.not_eq_true', Bool.and_eq_false_iff,
      beq_eq_false_iff_ne, not_and_or, and_assoc, ne_eq]
    rfl
  rw [hb, buffersGood]
  generalize si.size * n = a at *
  generalize di.size * n = b at *
  refine ⟨fun ⟨hn, hi, hl, hr⟩ ⟨_, _, _, _, hg⟩ => ?_, fun h => ?_⟩
  · rcases hg with hg | hg | hg | hg
    · omega
    · omega
    · omega
    · exact hi hg
  · have hg : ¬(n = 0 ∨ src.toNat + a ≤ dst.toNat ∨ dst.toNat + b ≤ src.toNat ∨
        (src.toNat = dst.toNat ∧ si.size = di.size)) := fun hg => h ⟨h1, h2, h3, h4, hg⟩
    simp only [not_or] at hg
    exact ⟨by omega, hg.2.2.2, by omega, by omega⟩

/-- Without an input buffer nothing overlaps. -/
theorem badOverlap_none_left (out : Option Elem) (src dst : Word) (n : Nat) : badOverlap none out src dst n = false := rfl

/-- Without an output buffer nothing overlaps. -/
theorem badOverlap_none_right (inp : Option Elem) (src dst : Word) (n : Nat) : badOverlap inp none src dst n = false := by
  cases inp <;> rfl

/-- COUNT = {IMG_H, IMG_W} at B = 5 (rule R181). -/
theorem imageDims_eq : imageDims = 0x00200400#32 := by decide

/-- When a command passes validation (rule R181). -/
theorem firstError_eq_none_iff (c : Command) (s : State) :
    c.firstError s = none ↔
      c.legal = true ∧ (c.needsGrid = true → s.gvalid = true) ∧ (c.needsImage = true → s.count = imageDims) ∧
        misalignedBuffer c.input s.src = false ∧ misalignedBuffer c.output s.dst = false ∧
        beyondTop c.input s.src (c.elements.number s) = false ∧ beyondTop c.output s.dst (c.elements.number s) = false ∧
        badOverlap c.input c.output s.src s.dst (c.elements.number s) = false := by
  have h {p : Prop} [Decidable p] (x : CmdError × Word) (y : Option (CmdError × Word)) :
      (if p then some x else y) = none ↔ ¬p ∧ y = none := by split <;> simp_all
  simp only [Command.firstError, h, Bool.not_eq_true', Bool.not_eq_false, Bool.and_eq_true, bne_iff_ne, ne_eq, not_and,
    Bool.not_eq_true, not_not, and_true]

/-- The number of elements depends on COUNT alone. -/
theorem elements_number_congr (e : Elements) {s t : State} (h : t.count = s.count) : e.number t = e.number s := by
  cases e <;> simp [Elements.number, h]

/-- A command that fills the grid has one element per cell (rule R154). -/
theorem elements_of_fillsGrid (i : Instr) (h : (commandOf i).fillsGrid = true) : (commandOf i).elements = .cells := by
  cases i <;> first | rfl | cases h

/-- What the start of a validated command leaves (rules R182 and R187), in the claims' terms. -/
theorem start_accept_eq (i : Instr) (s : State) :
    (commandOf i).start (s.accept (encode i)) =
      if (commandOf i).elements.number s = 0 then doneAtOnce s (encode i)
      else { running s (encode i) with gvalid := s.gvalid && !(commandOf i).fillsGrid } := by
  unfold Command.start
  rw [elements_number_congr (t := s.accept (encode i)) _ (accept_count s (encode i))]
  split
  · cases hf : (commandOf i).fillsGrid with
    | false => simp [State.complete, State.accept, doneAtOnce]
    | true => simp_all [elements_of_fillsGrid i hf, Elements.number]
  · rfl

/-! Engine steps. -/

/-- What a read step answers when it answers a next state (rules R104 and R307). -/
theorem readStep_cases {c : Command} {s t : State} {e : Nat} {l : List Word} (h : c.readStep s e l = .next t) :
    (s.memRead (c.inputAddress s e l.length) = .busError ∧
      t = s.raise .busError (BitVec.ofNat 32 (c.inputAddress s e l.length))) ∨
    (portGood s (c.inputAddress s e l.length) ∧
      ((l.length + 1 = c.reads ∧ c.writes = 0 ∧
          t = c.finishElement s e (l ++ [s.mem.word (c.inputAddress s e l.length)])) ∨
        (¬(l.length + 1 = c.reads ∧ c.writes = 0) ∧
          t = { s with phase := .run (l ++ [s.mem.word (c.inputAddress s e l.length)]) 0 }))) := by
  unfold Command.readStep at h
  split at h
  · cases h
  · rename_i hb
    exact .inl ⟨hb, (Host.Outcome.next.inj h).symm⟩
  · rename_i w hw
    obtain ⟨hp, rfl⟩ := (memRead_eq_ok_iff _ _ _).mp hw
    refine .inr ⟨hp, ?_⟩
    split at h
    · rename_i hc
      exact .inl ⟨hc.1, hc.2, (Host.Outcome.next.inj h).symm⟩
    · rename_i hc
      exact .inr ⟨hc, (Host.Outcome.next.inj h).symm⟩

/-- What a write step answers when it answers a next state (rules R105 and R307). -/
theorem writeStep_cases {c : Command} {s t : State} {e k : Nat} {l : List Word} (h : c.writeStep s e l k = .next t) :
    (s.memWrite (c.outputAddress s e k) ((c.outWords s e l).getD k 0#32) = .busError ∧
      t = s.raise .busError (BitVec.ofNat 32 (c.outputAddress s e k))) ∨
    (portGood s (c.outputAddress s e k) ∧
      ((k + 1 = c.writes ∧ t = c.finishElement
          { s with mem := s.mem.setWord (c.outputAddress s e k) ((c.outWords s e l).getD k 0#32) } e l) ∨
        (k + 1 ≠ c.writes ∧ t =
          { s with
            mem := s.mem.setWord (c.outputAddress s e k) ((c.outWords s e l).getD k 0#32)
            phase := .run l (k + 1) }))) := by
  unfold Command.writeStep at h
  split at h
  · cases h
  · rename_i hb
    exact .inl ⟨hb, (Host.Outcome.next.inj h).symm⟩
  · rename_i s1 hw
    obtain ⟨hp, rfl⟩ := (memWrite_eq_ok_iff _ _ _ _).mp hw
    refine .inr ⟨hp, ?_⟩
    split at h
    · rename_i hc
      exact .inl ⟨hc, (Host.Outcome.next.inj h).symm⟩
    · rename_i hc
      exact .inr ⟨hc, (Host.Outcome.next.inj h).symm⟩

/-- What an engine step answers when it answers a next state (rule R186): the element exists, and the step is a read, a
write, or a whole element without accesses. -/
theorem engineStep_cases {c : Command} {s t : State} {l : List Word} {k : Nat} (h : c.engineStep s l k = .next t) :
    s.progress.toNat < c.elements.number s ∧
      ((l.length < c.reads ∧ c.readStep s s.progress.toNat l = .next t) ∨
        (c.reads ≤ l.length ∧ k < c.writes ∧ c.writeStep s s.progress.toNat l k = .next t) ∨
        (c.reads ≤ l.length ∧ c.writes ≤ k ∧ t = c.finishElement s s.progress.toNat l)) := by
  unfold Command.engineStep at h
  split at h
  · cases h
  · rename_i hn
    refine ⟨by omega, ?_⟩
    split at h
    · rename_i hr
      exact .inl ⟨hr, h⟩
    · rename_i hr
      split at h
      · rename_i hw
        exact .inr (.inl ⟨by omega, hw, h⟩)
      · rename_i hw
        exact .inr (.inr ⟨by omega, by omega, (Host.Outcome.next.inj h).symm⟩)

/-- What the end of an element leaves (rules R186 and R187), in the claims' terms. -/
theorem finishElement_eq (c : Command) (s : State) (l : List Word) :
    c.finishElement s s.progress.toNat l =
      elementDone (if c.fillsGrid then
          s.setGrid (c.cell s s.progress.toNat l).1 (c.cell s s.progress.toNat l).2 else s)
        (c.elements.number s) c.fillsGrid := by
  unfold Command.finishElement elementDone
  cases hf : c.fillsGrid <;> simp only [if_true, if_false, Bool.false_eq_true] <;>
    by_cases hn : c.elements.number s ≤ s.progress.toNat + 1 <;>
    simp only [hn, if_true, if_false] <;>
    first
    | (rw [if_neg (show ¬ (_ < _) by simp only [setGrid_progress]; omega)]; rfl)
    | (rw [if_pos (show _ < _ by simp only [setGrid_progress]; omega)]; rfl)
    | (rw [if_neg (by omega)]; rfl)
    | (rw [if_pos (by omega)])

/-- The engine step that reads a word of an element that goes on (rules R104 and R186). -/
theorem engineStep_read {c : Command} {s : State} {l : List Word} {k : Nat}
    (hn : s.progress.toNat < c.elements.number s) (hr : l.length < c.reads)
    (hc : ¬(l.length + 1 = c.reads ∧ c.writes = 0))
    (hg : portGood s (c.inputAddress s s.progress.toNat l.length)) :
    c.engineStep s l k = .next
      { s with phase := .run (l ++ [s.mem.word (c.inputAddress s s.progress.toNat l.length)]) 0 } := by
  unfold Command.engineStep Command.readStep
  rw [if_neg (by omega), if_pos hr, (memRead_eq_ok_iff _ _ _).mpr ⟨hg, rfl⟩]
  exact if_neg hc

/-- The engine step that reads the last word of an element without writes (rule R186). -/
theorem engineStep_read_last {c : Command} {s : State} {l : List Word} {k : Nat}
    (hn : s.progress.toNat < c.elements.number s) (hr : l.length + 1 = c.reads) (hw : c.writes = 0)
    (hg : portGood s (c.inputAddress s s.progress.toNat l.length)) :
    c.engineStep s l k = .next
      (c.finishElement s s.progress.toNat (l ++ [s.mem.word (c.inputAddress s s.progress.toNat l.length)])) := by
  unfold Command.engineStep Command.readStep
  rw [if_neg (by omega), if_pos (by omega), (memRead_eq_ok_iff _ _ _).mpr ⟨hg, rfl⟩]
  exact if_pos ⟨hr, hw⟩

/-- The engine step that writes a word of an element that goes on (rules R105 and R186). -/
theorem engineStep_write {c : Command} {s : State} {l : List Word} {k : Nat}
    (hn : s.progress.toNat < c.elements.number s) (hr : c.reads ≤ l.length) (hw : k + 1 < c.writes)
    (hg : portGood s (c.outputAddress s s.progress.toNat k)) :
    ∃ t, storesWord s t (c.outputAddress s s.progress.toNat k) ((c.outWords s s.progress.toNat l).getD k 0#32) ∧
      c.engineStep s l k = .next { t with phase := .run l (k + 1) } := by
  refine ⟨_, storesWord_setWord _ _ _, ?_⟩
  unfold Command.engineStep Command.writeStep
  rw [if_neg (by omega), if_neg (by omega), if_pos (by omega), (memWrite_eq_ok_iff _ _ _ _).mpr ⟨hg, rfl⟩]
  exact if_neg (by omega)

/-- The engine step that writes the last word of an element (rules R105, R186 and R187), for a command that leaves the
grid. -/
theorem engineStep_write_last {c : Command} {s : State} {l : List Word} {k : Nat}
    (hn : s.progress.toNat < c.elements.number s) (hr : c.reads ≤ l.length) (hw : k + 1 = c.writes)
    (hf : c.fillsGrid = false) (hg : portGood s (c.outputAddress s s.progress.toNat k)) :
    ∃ t, storesWord s t (c.outputAddress s s.progress.toNat k) ((c.outWords s s.progress.toNat l).getD k 0#32) ∧
      c.engineStep s l k = .next (elementDone t (c.elements.number s) false) := by
  refine ⟨_, storesWord_setWord _ _ _, ?_⟩
  unfold Command.engineStep Command.writeStep
  rw [if_neg (by omega), if_neg (by omega), if_pos (by omega), (memWrite_eq_ok_iff _ _ _ _).mpr ⟨hg, rfl⟩]
  refine (if_pos hw).trans (congrArg _ ?_)
  generalize s.mem.setWord _ _ = m
  refine (finishElement_eq c { s with mem := m } l).trans ?_
  simp only [hf, Bool.false_eq_true, if_false]
  rw [show c.elements.number { s with mem := m } = c.elements.number s from elements_number_congr _ rfl]

/-- The engine step of an element without accesses (rules R186 and R187). -/
theorem engineStep_whole {c : Command} {s : State} {l : List Word} {k : Nat}
    (hn : s.progress.toNat < c.elements.number s) (hr : c.reads = 0) (hw : c.writes = 0) :
    c.engineStep s l k = .next (c.finishElement s s.progress.toNat l) := by
  unfold Command.engineStep
  rw [if_neg (by omega), if_neg (by omega), if_neg (by omega)]

/-! Tables. -/

/-- A table entry after a write of entry `i` of the table. -/
theorem tableEntry_setIfInBounds {n : Nat} (t : Vector Word n) {i : Nat} (j : Nat) (w : Word) (h : i < n) :
    tableEntry (t.setIfInBounds i w) j = if j = i then w else tableEntry t j := by
  unfold tableEntry
  by_cases hj : j = i
  · subst hj
    simp [h]
  · rw [Vector.getElem?_setIfInBounds_ne (Ne.symm hj), if_neg hj]

/-! The engine's errors and refusals. -/

/-- No command is ever refused: its step answers a next state or a fault. -/
theorem exec_ne_refused (i : Instr) (s : State) (r : Refusal) : exec i s ≠ .refused r := by
  rw [exec_eq_step]
  unfold Command.step
  split
  · simp
  · unfold Command.engineStep Command.readStep Command.writeStep
    repeat' split
    all_goals simp

/-! Pixels and cells. -/

/-! The bytes of a packed pixel (00_scope.md rule R16). -/

@[simp] theorem red_pack (r g b a : Byte) : red (pack r g b a) = r := (byteOf_wordOf r g b a).1
@[simp] theorem green_pack (r g b a : Byte) : green (pack r g b a) = g := (byteOf_wordOf r g b a).2.1
@[simp] theorem blue_pack (r g b a : Byte) : blue (pack r g b a) = b := (byteOf_wordOf r g b a).2.2.1
@[simp] theorem alpha_pack (r g b a : Byte) : alpha (pack r g b a) = a := (byteOf_wordOf r g b a).2.2.2

/-- The sample pixel of a cell at B = 5 (rules R250 and R251). -/
theorem samplePixel_eq (n : Nat) :
    samplePixel n = pack (BitVec.ofNat 8 (n % 32 * 8 + 4)) (BitVec.ofNat 8 (n / 32 % 32 * 8 + 4))
      (BitVec.ofNat 8 (n / 1024 * 8 + 4)) 255#8 := by
  have h1 (m : Nat) : m &&& 31 = m % 32 := Nat.and_two_pow_sub_one_eq_mod m 5
  have h2 : n >>> 5 = n / 32 := Nat.shiftRight_eq_div_pow n 5
  have h3 : n >>> 10 = n / 1024 := Nat.shiftRight_eq_div_pow n 10
  simp [samplePixel, samplePoint, Config.edge, Config.lutBits, Config.scale, Config.offset, h1, h2, h3]

/-- The image map at B = 5 (20_memory.md rule R126). -/
theorem imageCell_eq (m : Nat) : imageCell m = m % 1024 / 32 * 1024 + m / 1024 * 32 + m % 32 := by
  simp only [imageCell, cellNumber, Config.imageWidth, Config.edge, Config.lutBits]
  omega

/-- The nearest cell at B = 5 (rule R265). -/
theorem nearestCell_eq (w : Word) :
    nearestCell w = (blue w).toNat / 8 * 1024 + (green w).toNat / 8 * 32 + (red w).toNat / 8 := by
  simp only [nearestCell, cellNumber, Config.fracShift, Config.edge, Config.lutBits, Nat.shiftRight_eq_div_pow]
  rfl

/-! Numbers. -/

/-- The image map stays inside the grid (20_memory.md rule R126). -/
theorem imageCell_lt {m : Nat} (h : m < Config.cells) : imageCell m < Config.cells := by
  simp only [imageCell, cellNumber, Config.imageWidth, Config.edge, Config.lutBits, Config.cells] at *
  omega

/-- There are at most 255 thresholds, so a code fits a byte (rule R202). -/
theorem thresholdsNotAbove_le (t : Vector Word 255) (v : Word) : thresholdsNotAbove t v ≤ 255 := by
  refine Nat.le_trans List.countP_le_length ?_
  simp

/-- The encode primitive's code as a number (rule R202). -/
theorem enc_toNat (s : State) (b : Bank) (v : Word) : (s.enc b v).toNat = thresholdsNotAbove (s.encTable b) v := by
  have := thresholdsNotAbove_le (s.encTable b) v
  simp only [State.enc, BitVec.toNat_ofNat]
  omega

end Sys2Proof.Machine
end

