-- ==== Sys2Proof/Laws/Commands.lean ====
section
/-! SUPPORT. The operands of each command (30_encoding.md rule R154) as plain numbers: how many words an element reads and
writes, where they lie, how many elements there are, and whether the command fills the grid. -/

namespace Sys2Proof.Machine

/-! `nopCommand`. -/

@[simp] theorem nopCommand_reads : nopCommand.reads = 0 := rfl
@[simp] theorem nopCommand_writes : nopCommand.writes = 0 := rfl
@[simp] theorem nopCommand_fillsGrid : nopCommand.fillsGrid = false := rfl
@[simp] theorem nopCommand_number (s : State) : nopCommand.elements.number s = 0 := rfl

/-! `decodeCommand`. -/

@[simp] theorem decodeCommand_reads (db : Bank) : (decodeCommand db).reads = 1 := rfl
@[simp] theorem decodeCommand_writes (db : Bank) : (decodeCommand db).writes = 4 := rfl
@[simp] theorem decodeCommand_fillsGrid (db : Bank) : (decodeCommand db).fillsGrid = false := rfl
@[simp] theorem decodeCommand_number (db : Bank) (s : State) :
    (decodeCommand db).elements.number s = s.count.toNat := rfl
@[simp] theorem decodeCommand_inputAddress (db : Bank) (s : State) (e k : Nat) :
    (decodeCommand db).inputAddress s e k = s.src.toNat + 4 * e + 4 * k := rfl
@[simp] theorem decodeCommand_outputAddress (db : Bank) (s : State) (e k : Nat) :
    (decodeCommand db).outputAddress s e k = s.dst.toNat + 16 * e + 4 * k := rfl

/-! `encodeCommand`. -/

@[simp] theorem encodeCommand_reads (eb : Bank) : (encodeCommand eb).reads = 3 := rfl
@[simp] theorem encodeCommand_writes (eb : Bank) : (encodeCommand eb).writes = 1 := rfl
@[simp] theorem encodeCommand_fillsGrid (eb : Bank) : (encodeCommand eb).fillsGrid = false := rfl
@[simp] theorem encodeCommand_number (eb : Bank) (s : State) :
    (encodeCommand eb).elements.number s = s.count.toNat := rfl
@[simp] theorem encodeCommand_inputAddress (eb : Bank) (s : State) (e k : Nat) :
    (encodeCommand eb).inputAddress s e k = s.src.toNat + 16 * e + 4 * k := rfl
@[simp] theorem encodeCommand_outputAddress (eb : Bank) (s : State) (e k : Nat) :
    (encodeCommand eb).outputAddress s e k = s.dst.toNat + 4 * e + 4 * k := rfl

/-! `xformCommand`. -/

@[simp] theorem xformCommand_reads (ch : Chain) (xs : Bool) : (xformCommand ch xs).reads = 3 := rfl
@[simp] theorem xformCommand_writes (ch : Chain) (xs : Bool) : (xformCommand ch xs).writes = 4 := rfl
@[simp] theorem xformCommand_fillsGrid (ch : Chain) (xs : Bool) : (xformCommand ch xs).fillsGrid = false := rfl
@[simp] theorem xformCommand_number (ch : Chain) (xs : Bool) (s : State) :
    (xformCommand ch xs).elements.number s = s.count.toNat := rfl
@[simp] theorem xformCommand_inputAddress (ch : Chain) (xs : Bool) (s : State) (e k : Nat) :
    (xformCommand ch xs).inputAddress s e k = s.src.toNat + 16 * e + 4 * k := rfl
@[simp] theorem xformCommand_outputAddress (ch : Chain) (xs : Bool) (s : State) (e k : Nat) :
    (xformCommand ch xs).outputAddress s e k = s.dst.toNat + 16 * e + 4 * k := rfl

/-! `pipeCommand`. -/

@[simp] theorem pipeCommand_reads (db eb : Bank) (ch : Chain) (xs : Bool) : (pipeCommand db eb ch xs).reads = 1 := rfl
@[simp] theorem pipeCommand_writes (db eb : Bank) (ch : Chain) (xs : Bool) : (pipeCommand db eb ch xs).writes = 1 := rfl
@[simp] theorem pipeCommand_fillsGrid (db eb : Bank) (ch : Chain) (xs : Bool) :
    (pipeCommand db eb ch xs).fillsGrid = false := rfl
@[simp] theorem pipeCommand_number (db eb : Bank) (ch : Chain) (xs : Bool) (s : State) :
    (pipeCommand db eb ch xs).elements.number s = s.count.toNat := rfl
@[simp] theorem pipeCommand_inputAddress (db eb : Bank) (ch : Chain) (xs : Bool) (s : State) (e k : Nat) :
    (pipeCommand db eb ch xs).inputAddress s e k = s.src.toNat + 4 * e + 4 * k := rfl
@[simp] theorem pipeCommand_outputAddress (db eb : Bank) (ch : Chain) (xs : Bool) (s : State) (e k : Nat) :
    (pipeCommand db eb ch xs).outputAddress s e k = s.dst.toNat + 4 * e + 4 * k := rfl

/-! `buildCommand`. -/

@[simp] theorem buildCommand_reads (db eb : Bank) (ch : Chain) (xs : Bool) : (buildCommand db eb ch xs).reads = 0 := rfl
@[simp] theorem buildCommand_writes (db eb : Bank) (ch : Chain) (xs : Bool) :
    (buildCommand db eb ch xs).writes = 0 := rfl
@[simp] theorem buildCommand_fillsGrid (db eb : Bank) (ch : Chain) (xs : Bool) :
    (buildCommand db eb ch xs).fillsGrid = true := rfl
@[simp] theorem buildCommand_number (db eb : Bank) (ch : Chain) (xs : Bool) (s : State) :
    (buildCommand db eb ch xs).elements.number s = 32768 := rfl

/-! `applyTriCommand`. -/

@[simp] theorem applyTriCommand_reads (x : Bool) : (applyTriCommand x).reads = 1 := rfl
@[simp] theorem applyTriCommand_writes (x : Bool) : (applyTriCommand x).writes = 1 := rfl
@[simp] theorem applyTriCommand_fillsGrid (x : Bool) : (applyTriCommand x).fillsGrid = false := rfl
@[simp] theorem applyTriCommand_number (x : Bool) (s : State) :
    (applyTriCommand x).elements.number s = s.count.toNat := rfl
@[simp] theorem applyTriCommand_inputAddress (x : Bool) (s : State) (e k : Nat) :
    (applyTriCommand x).inputAddress s e k = s.src.toNat + 4 * e + 4 * k := rfl
@[simp] theorem applyTriCommand_outputAddress (x : Bool) (s : State) (e k : Nat) :
    (applyTriCommand x).outputAddress s e k = s.dst.toNat + 4 * e + 4 * k := rfl

/-! `applyNearestCommand`. -/

@[simp] theorem applyNearestCommand_reads : applyNearestCommand.reads = 1 := rfl
@[simp] theorem applyNearestCommand_writes : applyNearestCommand.writes = 1 := rfl
@[simp] theorem applyNearestCommand_fillsGrid : applyNearestCommand.fillsGrid = false := rfl
@[simp] theorem applyNearestCommand_number (s : State) : applyNearestCommand.elements.number s = s.count.toNat := rfl
@[simp] theorem applyNearestCommand_inputAddress (s : State) (e k : Nat) :
    applyNearestCommand.inputAddress s e k = s.src.toNat + 4 * e + 4 * k := rfl
@[simp] theorem applyNearestCommand_outputAddress (s : State) (e k : Nat) :
    applyNearestCommand.outputAddress s e k = s.dst.toNat + 4 * e + 4 * k := rfl

/-! `applyMonoCommand`. -/

@[simp] theorem applyMonoCommand_reads (db eb : Bank) (ms : Mono) : (applyMonoCommand db eb ms).reads = 1 := rfl
@[simp] theorem applyMonoCommand_writes (db eb : Bank) (ms : Mono) : (applyMonoCommand db eb ms).writes = 1 := rfl
@[simp] theorem applyMonoCommand_fillsGrid (db eb : Bank) (ms : Mono) :
    (applyMonoCommand db eb ms).fillsGrid = false := rfl
@[simp] theorem applyMonoCommand_number (db eb : Bank) (ms : Mono) (s : State) :
    (applyMonoCommand db eb ms).elements.number s = s.count.toNat := rfl
@[simp] theorem applyMonoCommand_inputAddress (db eb : Bank) (ms : Mono) (s : State) (e k : Nat) :
    (applyMonoCommand db eb ms).inputAddress s e k = s.src.toNat + 4 * e + 4 * k := rfl
@[simp] theorem applyMonoCommand_outputAddress (db eb : Bank) (ms : Mono) (s : State) (e k : Nat) :
    (applyMonoCommand db eb ms).outputAddress s e k = s.dst.toNat + 4 * e + 4 * k := rfl

/-! `lutLoadCommand`. -/

@[simp] theorem lutLoadCommand_reads : lutLoadCommand.reads = 1 := rfl
@[simp] theorem lutLoadCommand_writes : lutLoadCommand.writes = 0 := rfl
@[simp] theorem lutLoadCommand_fillsGrid : lutLoadCommand.fillsGrid = true := rfl
@[simp] theorem lutLoadCommand_number (s : State) : lutLoadCommand.elements.number s = 32768 := rfl
@[simp] theorem lutLoadCommand_inputAddress (s : State) (e k : Nat) :
    lutLoadCommand.inputAddress s e k = s.src.toNat + 4 * e + 4 * k := rfl

/-! `lutStoreCommand`. -/

@[simp] theorem lutStoreCommand_reads : lutStoreCommand.reads = 0 := rfl
@[simp] theorem lutStoreCommand_writes : lutStoreCommand.writes = 1 := rfl
@[simp] theorem lutStoreCommand_fillsGrid : lutStoreCommand.fillsGrid = false := rfl
@[simp] theorem lutStoreCommand_number (s : State) : lutStoreCommand.elements.number s = 32768 := rfl
@[simp] theorem lutStoreCommand_outputAddress (s : State) (e k : Nat) :
    lutStoreCommand.outputAddress s e k = s.dst.toNat + 4 * e + 4 * k := rfl

end Sys2Proof.Machine
end

