-- ==== Sys2Proof/Laws/PerInstr.lean ====
section
/-! SUPPORT. A fact about each command's syntax: its word has the form of its row of rule R150. -/

namespace Sys2Proof.Laws.EncodingRow

/-- The word of a command has its row's match value under its row's mask (30_encoding.md rule R150). -/
abbrev Statement (i : Instr) : Prop := i.row.hasForm (encode i) = true

/-- A chain by its three enables. -/
theorem forall_chain {p : Chain → Prop} (h : ∀ a b c, p ⟨a, b, c⟩) (ch : Chain) : p ch := h _ _ _

theorem nop : Statement .nop := by decide
theorem decode (db : Bank) : Statement (.decode db) := by cases db <;> decide
theorem encode (eb : Bank) : Statement (.encode eb) := by cases eb <;> decide
theorem xform (ch : Chain) (xs : Bool) : Statement (.xform ch xs) := by
  refine forall_chain (p := fun ch => Statement (.xform ch xs)) (fun a b c => ?_) ch
  revert a b c xs; decide
theorem pipe (db eb : Bank) (ch : Chain) (xs : Bool) : Statement (.pipe db eb ch xs) := by
  refine forall_chain (p := fun ch => Statement (.pipe db eb ch xs)) (fun a b c => ?_) ch
  cases db <;> cases eb <;> revert a b c xs <;> decide
theorem build (db eb : Bank) (ch : Chain) (xs : Bool) : Statement (.build db eb ch xs) := by
  refine forall_chain (p := fun ch => Statement (.build db eb ch xs)) (fun a b c => ?_) ch
  cases db <;> cases eb <;> revert a b c xs <;> decide
theorem applyTri (x : Bool) : Statement (.applyTri x) := by cases x <;> decide
theorem applyNearest : Statement .applyNearest := by decide
theorem applyMono (db eb : Bank) (ms : Mono) : Statement (.applyMono db eb ms) := by
  cases db <;> cases eb <;> cases ms <;> decide
theorem lutLoad : Statement .lutLoad := by decide
theorem lutStore : Statement .lutStore := by decide

end Sys2Proof.Laws.EncodingRow
end

