-- ==== Sys2Proof/Tests/Slice0.lean ====
section
/-! SUPPORT. Tests: expected values are those of spec/95_test_vectors.md (the section is named at each test) or worked out
from the cited rule; and, for every statement with hypotheses, a concrete state that meets them (witness theorems). -/

namespace Sys2Proof.Tests

open Sys2Proof.Machine

/-! One theorem after the other: many kernel evaluations at once would each hold a thread and its stack. -/
set_option Elab.async false

/-- Whether an outcome is a next state with a property. -/
def nextHas (r : Result) (p : State → Bool) : Bool :=
  match r with
  | .next t => p t
  | .fault _ => false
  | .refused _ => false

/-- The reset state with operands set. -/
def ready (src dst count : Word) : State := { State.reset with src := src, dst := dst, count := count }

/-- A command under way at an element, with the words read and the number of words written. -/
def busyAt (src dst count progress : Word) (latched : List Word) (written : Nat) : State :=
  { ready src dst count with progress := progress, phase := .run latched written }

/-- M0 = 0.5 times the identity. -/
def halfMat : Mat :=
  ⟨⟨0x00800000#32, 0#32, 0#32⟩, ⟨0#32, 0x00800000#32, 0#32⟩, ⟨0#32, 0#32, 0x00800000#32⟩⟩

/-! ## Well-formedness: an ill-formed term for each check (rule R151) -/

theorem test_wf_refuses_xform_xs_with_chain : (Instr.xform ⟨true, false, false⟩ true).wf = false := by decide
theorem test_wf_refuses_pipe_xs_with_chain :
    (Instr.pipe .scale255 .scale255 ⟨false, true, false⟩ true).wf = false := by decide
theorem test_wf_refuses_build_xs_with_chain :
    (Instr.build .scale256 .scale256 ⟨false, false, true⟩ true).wf = false := by decide
theorem test_wf_accepts_xform_xs_alone : (Instr.xform Chain.none true).wf = true := by decide

/-! ## Decoding: words written out from rule R141 (bits: 0^19 ms s ccc e d x oooo) -/

theorem test_decode_nop : decode 0b00000000000000000000000000000000#32 = some .nop := by decide
theorem test_decode_decode : decode 0b00000000000000000000000000100001#32 = some (.decode .scale256) := by decide
theorem test_decode_encode : decode 0b00000000000000000000000001000010#32 = some (.encode .scale256) := by decide
theorem test_decode_xform :
    decode 0b00000000000000000000001010000011#32 = some (.xform ⟨true, false, true⟩ false) := by decide
theorem test_decode_xform_xs : decode 0b00000000000000000000010000000011#32 = some (.xform Chain.none true) := by decide
theorem test_decode_pipe :
    decode 0b00000000000000000000000100100100#32 = some (.pipe .scale256 .scale255 ⟨false, true, false⟩ false) := by
  decide
theorem test_decode_build :
    decode 0b00000000000000000000001001000101#32 = some (.build .scale255 .scale256 ⟨false, false, true⟩ false) := by
  decide
theorem test_decode_applyTri : decode 0b00000000000000000000000000010110#32 = some (.applyTri true) := by decide
theorem test_decode_applyNearest : decode 0b00000000000000000000000000000111#32 = some .applyNearest := by decide
theorem test_decode_applyMono :
    decode 0b00000000000000000001000000101000#32 = some (.applyMono .scale256 .scale255 .blue) := by decide
theorem test_decode_lutLoad : decode 0b00000000000000000000000000001001#32 = some .lutLoad := by decide
theorem test_decode_lutStore : decode 0b00000000000000000000000000001010#32 = some .lutStore := by decide

/-- Section 2.12: the words of the Illegal rows. -/
theorem test_decode_refuses :
    ([0x0000000B#32, 0x0000000F#32, 0x00002000#32, 0x80000001#32, 0x00000041#32, 0x00000483#32, 0x00000017#32,
      0x00000018#32, 0x00001818#32, 0x00000010#32].all fun w => (decode w).isNone) = true := by decide

/-- No word has the form of two rows (rule R151): two rows differ in a bit both fix. -/
theorem test_rows_disjoint : rows.Pairwise fun a b => a.mask &&& b.mask &&& (a.bits ^^^ b.bits) ≠ 0#32 := by decide

/-- The encoder on rule R156's examples. -/
theorem test_encode_examples :
    encode (.applyTri true) = 0x00000016#32 ∧ encode (.build .scale256 .scale256 Chain.none false) = 0x00000065#32 ∧
    encode (.pipe .scale255 .scale255 ⟨true, true, false⟩ false) = 0x00000184#32 ∧
    encode (.applyMono .scale255 .scale255 .luminance) = 0x00001808#32 ∧
    encode (.xform Chain.none true) = 0x00000403#32 := by decide

theorem test_decodeTableWord : decodeTableWord 32 0x1868 = some (.applyMono .scale256 .scale256 .luminance) := by decide

/-! ## One step of each command -/

/-- Section 2.5: NOP with a misaligned SRC. -/
theorem test_nop_ignores_src :
    nextHas (exec .nop (ready 0x1003#32 0#32 0#32)) (fun t => t.statusWord == 0x2#32) = true := by decide +kernel

/-- Section 2.5: pack(0, 128, 255, 7), channel 1. -/
theorem test_decode_channel :
    nextHas (exec (.decode .scale255) (busyAt 0x1000#32 0x2000#32 2#32 0#32 [0x07FF8000#32] 1))
      (fun t => t.mem.word 0x2004 == 3682930#32 && t.phase == .run [0x07FF8000#32] 2) = true := by decide +kernel

/-- Section 2.12: Align names SRC. -/
theorem test_decode_align :
    nextHas (exec (.decode .scale255) (ready 0x1002#32 0x2008#32 2#32))
      (fun t => t.statusWord == 0x46#32 && t.errAddr == 0x1002#32) = true := by decide +kernel

/-- Section 2.5: LIN (0x00800000, 0x7FFFFFFF, 0x80000000). -/
theorem test_encode_pixel :
    nextHas (exec (.encode .scale255)
        (busyAt 0x1000#32 0x2000#32 3#32 2#32 [0x00800000#32, 0x7FFFFFFF#32, 0x80000000#32] 0))
      (fun t => t.mem.word 0x2008 == 0xFF00FFBA#32 && t.statusWord == 0x2#32 && t.progress == 3#32) = true := by
  decide +kernel

/-- Section 2.4: `xform m0` of (3, -3, 16777216), channel 1 is -1. -/
theorem test_xform_channel :
    nextHas (exec (.xform ⟨true, false, false⟩ false)
        { busyAt 0x1000#32 0x2000#32 3#32 0#32 [3#32, -3#32, 16777216#32] 1 with m0 := halfMat })
      (fun t => t.mem.word 0x2004 == -1#32) = true := by decide +kernel

/-- Section 2.5: `pipe.std m0` of grey 128. -/
theorem test_pipe_pixel :
    nextHas (exec (.pipe .scale255 .scale255 ⟨true, false, false⟩ false)
        { busyAt 0x1000#32 0x1000#32 1#32 0#32 [0x00808080#32] 0 with m0 := halfMat })
      (fun t => t.mem.word 0x1000 == 0xFF5D5D5D#32) = true := by decide +kernel

/-- Section 1.1: cell 3141 of `build.std`. -/
theorem test_build_cell :
    nextHas (exec (.build .scale256 .scale256 Chain.none false) (busyAt 0#32 0#32 0#32 3141#32 [] 0))
      (fun t => t.gridAt 3141 == 0xFF1C142C#32 && t.progress == 3142#32 && !t.gvalid) = true := by decide +kernel

/-- Section 2.6: the last cell ends BUILD and makes the grid valid. -/
theorem test_build_last_cell :
    nextHas (exec (.build .scale256 .scale256 Chain.none false) (busyAt 0#32 0#32 0#32 32767#32 [] 0))
      (fun t => t.gridAt 32767 == 0xFFFCFCFC#32 && t.statusWord == 0x2#32 && t.ctrlWord == 0x4#32) = true := by
  decide +kernel

/-- Section 2.8, worked example: (0, 128, 200) on the R/B swap grid gives (192, 128, 8). -/
theorem test_applyTri_pixel :
    nextHas (exec (.applyTri true)
        { busyAt 0x1000#32 0x2000#32 1#32 0#32 [0x00C88000#32] 0 with
          grid := [(25056, 0xFF047CC4#32), (26113, 0xFF0C84CC#32)] })
      (fun t => t.mem.word 0x2000 == 0xFF0880C0#32) = true := by decide +kernel

/-- Section 2.12: NoGrid after reset. -/
theorem test_applyTri_noGrid :
    nextHas (exec (.applyTri true) (ready 0x1002#32 0x2000#32 2#32)) (fun t => t.statusWord == 0x26#32) = true := by
  decide +kernel

/-- Section 2.9: pack(0, 7, 255, 0) takes cell (31, 0, 0). -/
theorem test_applyNearest_pixel :
    nextHas (exec .applyNearest
        { busyAt 0x1000#32 0x2000#32 1#32 0#32 [0x00FF0700#32] 0 with grid := [(31744, 0x12FC0404#32)] })
      (fun t => t.mem.word 0x2000 == 0xFFFC0404#32) = true := by decide +kernel

/-- Section 2.10: `luma` of pack(10, 200, 50, 9). -/
theorem test_applyMono_luma :
    nextHas (exec (.applyMono .scale255 .scale255 .luminance)
        (busyAt 0x1000#32 0x2000#32 5#32 0#32 [0x0932C80A#32] 0))
      (fun t => t.mem.word 0x2000 == 0xFFACACAC#32) = true := by decide +kernel

/-- Section 1.3: image word 2149 lands in cell 3141, alpha kept (rule R280). -/
theorem test_lutLoad_word :
    nextHas (exec .lutLoad
        { busyAt 0x100000#32 0#32 0x00200400#32 2149#32 [] 0 with mem := [(1057172, 0x65#8), (1057175, 0xA0#8)] })
      (fun t => t.gridAt 3141 == 0xA0000065#32 && t.progress == 2150#32) = true := by decide +kernel

/-- Section 2.12: COUNT = 0x04000020 is Dim. -/
theorem test_lutLoad_dim :
    nextHas (exec .lutLoad (ready 0x1000#32 0#32 0x04000020#32)) (fun t => t.statusWord == 0x36#32) = true := by
  decide +kernel

/-- Section 1.3: image word 32 is cell 1024 (section 2.11). -/
theorem test_lutStore_word :
    nextHas (exec .lutStore
        { busyAt 0#32 0x100000#32 0x00200400#32 32#32 [] 0 with grid := [(1024, 0xFF0C0404#32)] })
      (fun t => t.mem.word 0x100080 == 0xFF0C0404#32) = true := by decide +kernel

/-- Section 2.12: the failing LIN write at 0x2018. -/
theorem test_bus_error :
    nextHas (exec (.decode .scale255)
        { busyAt 0x1000#32 0x2000#32 3#32 1#32 [0xFF030201#32] 2 with noResponse := [0x2018#32] })
      (fun t => t.statusWord == 0x76#32 && t.errAddr == 0x2018#32 && t.progress == 1#32 && t.mem.isEmpty) = true := by
  decide +kernel

/-! ## Host access, reset, numbers -/

/-- Section 2.1. -/
theorem test_reset_reads :
    State.reset.readReg .id = 0x43424C01#32 ∧ State.reset.readReg .param = 0x00000185#32 ∧
      State.reset.readReg (regAt 0x050#12) = 0x01000000#32 ∧ State.reset.readReg (regAt 0x0B0#12) = 0x00B71759#32 := by
  decide +kernel

/-- Section 2.2: `tab 1, 255` then `rd TAB_DATA`. -/
theorem test_table_read :
    nextHas (step { State.reset with tabSel := 1#3, tabIdx := 255#15, inputs := rd .tabData })
      (fun t => t.readData == 16633375#32 && t.tabIdx == 256#15) = true := by decide +kernel

/-- Section 2.2: `tab 5, 0x7FFF, 0x11223344` wraps TAB_IDX. -/
theorem test_table_write_grid :
    nextHas (step { State.reset with tabSel := 5#3, tabIdx := 0x7FFF#15, inputs := wr .tabData 0x11223344#32 })
      (fun t => t.gridAt 32767 == 0x11223344#32 && t.tabIdx == 0#15 && !t.gvalid) = true := by decide +kernel

/-- Program P6: a write to M0[0][0] while busy only sets OVR. -/
theorem test_busy_lock :
    nextHas (step { busyAt 0#32 0#32 0#32 100#32 [] 0 with inputs := wr (.coef 0 0 0) 0#32 })
      (fun t => t.statusWord == 0x9#32 && t.m0 == identityMat) = true := by decide +kernel

/-- Section 2.13: IRQ with IE_ERR after an Illegal command. -/
theorem test_irq :
    nextHas (step { State.reset with ieErr := true, inputs := wr .cmd 0x0000000B#32 })
      (fun t => t.statusWord == 0x16#32 && t.irq) = true := by decide +kernel

/-- Section 2.14: reset during a command. -/
theorem test_reset_input :
    nextHas (step { busyAt 0#32 0#32 0#32 100#32 [] 0 with inputs := [.reset], mem := [(8, 1#8)] })
      (fun t => t.statusWord == 0#32 && t.progress == 0#32 && t.mem.byte 8 == 1#8) = true := by decide +kernel

/-- Section 2.4. -/
theorem test_mac :
    mac lumaWeights ⟨0x01000000#32, 0x01000000#32, 0x01000000#32⟩ = 0x01000000#32 ∧
      mac ⟨0x80000000#32, 0x80000000#32, 0x80000000#32⟩ ⟨0x80000000#32, 0x80000000#32, 0x80000000#32⟩ =
        0x7FFFFFFF#32 ∧
      mac ⟨0x7FFFFFFF#32, 0#32, 0#32⟩ ⟨0x80000000#32, 0#32, 0#32⟩ = 0x80000000#32 := by decide +kernel

/-- Section 2.7: rows of the axis table. -/
theorem test_axis :
    axis 0#8 true = ⟨0, 1, -4⟩ ∧ axis 0#8 false = ⟨0, 0, 4⟩ ∧ axis 128#8 true = ⟨15, 16, 4⟩ ∧
      axis 255#8 true = ⟨30, 31, 11⟩ ∧ axis 255#8 false = ⟨31, 31, 3⟩ := by decide +kernel

/-- Section 2.7: the extreme blends. -/
theorem test_blend :
    blend 0#8 255#8 (-4) true = 0#8 ∧ blend 255#8 0#8 (-4) true = 255#8 ∧ blend 240#8 248#8 11 true = 251#8 := by
  decide +kernel

/-- The fetch interface: a table word placed for the next step is accepted by it (rule R180). -/
theorem test_withFetchWord :
    nextHas (step (State.reset.withFetchWord 32 0x00000065)) (fun t => t.statusWord == 0x1#32 && t.cmd == 0x65#32) =
      true := by decide +kernel

/-! ## Witnesses: for each statement with hypotheses, a state and operands that meet them -/

/-- A running state for the element statements. -/
def elementState (latched : List Word) (written : Nat) : State :=
  busyAt 0xFFFFFFF0#32 0xFFFFFFC0#32 4#32 3#32 latched written

theorem portGood_of_reset_bus {s : State} {a : Nat} (h : s.noResponse = []) (ha : a < 2 ^ 32) (h4 : a % 4 = 0) :
    portGood s a := ⟨ha, h4, by simp [State.busOk, h]⟩

theorem witness_LegalWordsAndIllegalError :
    (State.withFetchWord State.reset 32 0x2000).phase = .idle ∧
      (State.withFetchWord State.reset 32 0x2000).inputs = [.hostWrite 0x010#12 0x00002000#32] ∧
      decode 0x00002000#32 = none ∧ (Instr.xform ⟨true, false, false⟩ true).wf = false := by decide

theorem witness_PseudoCommandsExpand : [CmdOption.m0, .xs].all CmdOption.ofTransform = true := by decide

theorem witness_StepRunsDecodedCommand :
    ((State.withFetchWord State.reset 32 0x65).phase = .idle ∧
      (State.withFetchWord State.reset 32 0x65).inputs = [.hostWrite 0x010#12 0x00000065#32] ∧
      decode 0x00000065#32 = some (.build .scale256 .scale256 Chain.none false)) ∧
    ((busyAt 0#32 0#32 0#32 0#32 [] 0).phase = .run [] 0 ∧ decode (busyAt 0#32 0#32 0#32 0#32 [] 0).cmd = some .nop ∧
      (busyAt 0#32 0#32 0#32 0#32 [] 0).inputs = []) ∧
    ({ busyAt 0#32 0#32 0#32 0#32 [] 0 with inputs := [.engine] } : State).inputs = .engine :: [] := by decide

theorem witness_IdleBlockKeepsState :
    State.reset.phase = .idle ∧ State.reset.inputs = [] ∧
      ({ State.reset with inputs := [.engine] } : State).inputs = .engine :: [] := by decide

theorem witness_ResetTakesOneStep :
    ({ busyAt 0#32 0#32 0#32 5#32 [] 0 with inputs := [.reset] } : State).inputs = .reset :: [] := by decide

theorem witness_ReservedAndReadOnlyOffsets :
    (0x034#12).toNat % 4 = 0 ∧ 0x034 ≤ (0x034#12).toNat ∧ (0x03C#12).toNat % 4 = 0 ∧ (0x03C#12).toNat ≤ 0x03C ∧
      (0x0B8#12).toNat % 4 = 0 ∧ 0x0B8 ≤ (0x0B8#12).toNat ∧ (0xFFC#12).toNat % 4 = 0 ∧ (0x024#12).toNat % 4 = 0 ∧
      ({ State.reset with inputs := [.hostRead 0x034#12] } : State).inputs = .hostRead 0x034#12 :: [] ∧
      ({ State.reset with inputs := [.hostWrite 0xFFC#12 1#32] } : State).inputs = .hostWrite 0xFFC#12 1#32 :: [] := by
  decide

theorem witness_HostReadReturnsRegister :
    ({ State.reset with inputs := rd .tabData } : State).inputs = .hostRead 0x030#12 :: [] ∧
      (0x030#12).toNat % 4 = 0 ∧ (0xFFC#12).toNat % 4 = 0 := by decide

theorem witness_CtrlWriteSetsEnables :
    ({ busyAt 0#32 0#32 0#32 0#32 [] 0 with inputs := wr .ctrl 5#32 } : State).inputs =
      .hostWrite 0x008#12 5#32 :: [] := by decide

theorem witness_StatusWriteClears :
    ({ State.reset with err := true, errCode := 4#4, inputs := wr .status 4#32 } : State).inputs =
      .hostWrite 0x00C#12 4#32 :: [] := by decide

/-- The boundary offsets of the three ranges of locked registers. -/
theorem witness_BusyLockSetsOnlyOvr :
    (busyAt 0#32 0#32 0#32 0#32 [] 0).phase = .run [] 0 ∧
      ({ busyAt 0#32 0#32 0#32 0#32 [] 0 with inputs := wr .cmd 1#32 } : State).inputs =
        .hostWrite 0x010#12 1#32 :: [] ∧
      [0x010#12, 0x01C#12, 0x028#12, 0x030#12, 0x040#12, 0x0B4#12].all (fun o =>
        decide (o.toNat % 4 = 0) && decide ((0x010 ≤ o.toNat ∧ o.toNat ≤ 0x01C) ∨ (0x028 ≤ o.toNat ∧ o.toNat ≤ 0x030) ∨
          (0x040 ≤ o.toNat ∧ o.toNat < 0x0B8))) = true := by decide

theorem witness_RunningCommandIgnoresOvr :
    (busyAt 0#32 0#32 0#32 0#32 [] 0).phase = .run [] 0 ∧
      nextHas (exec (.build .scale255 .scale255 Chain.none false) (busyAt 0#32 0#32 0#32 0#32 [] 0)) (fun _ => true) =
        true := by decide +kernel

/-- One write for each clause, the coefficient and the weight at the end of their ranges. -/
theorem witness_IdleWriteReadsBack :
    State.reset.phase = .idle ∧
      [Reg.src, .dst, .count, .coef 0 0 0, .coef 2 2 2, .luma 0, .luma 2, .tabSel, .tabIdx].all (fun r =>
        ({ State.reset with inputs := wr r 0xFFFFFFFF#32 } : State).inputs ==
          [.hostWrite r.offset 0xFFFFFFFF#32]) = true := by decide

theorem witness_TablePortRead :
    (State.reset.phase = .idle ∧ ({ State.reset with inputs := rd .tabData } : State).inputs =
      .hostRead 0x030#12 :: []) ∧
    (busyAt 0#32 0#32 0#32 0#32 [] 0).phase = .run [] 0 := by decide

theorem witness_TablePortWrite :
    State.reset.phase = .idle ∧
      ({ State.reset with inputs := wr .tabData 9#32 } : State).inputs = .hostWrite 0x030#12 9#32 :: [] ∧
      tableRange 2#3 1 = true ∧ tableRange 2#3 255 = true ∧ tableRange 5#3 32767 = true := by decide

/-- The Illegal error while idle sets DONE and ERR anew, with both enables set; and the last cell of BUILD sets DONE. -/
theorem witness_InterruptLine :
    nextHas (step { State.reset with ieDone := true, ieErr := true, inputs := wr .cmd 0x0000000B#32 })
      (fun t => t.done && t.err && t.irq) = true ∧
    (State.reset.done = false ∧ State.reset.err = false ∧ State.reset.phase = .idle ∧
      ({ State.reset with inputs := wr .cmd 0x0000000B#32 } : State).inputs = [.hostWrite 0x010#12 0x0000000B#32]) ∧
    nextHas (step { busyAt 0#32 0#32 0#32 32767#32 [] 0 with cmd := 0x65#32, inputs := [.engine] })
      (fun t => t.done && t.phase == .idle) = true ∧
    (busyAt 0#32 0#32 0#32 32767#32 [] 0).phase ≠ .idle ∧
    (({ State.reset with inputs := wr .status 6#32 } : State).inputs = [.hostWrite 0x00C#12 6#32] ∧
      (6#32).getLsbD 1 = true ∧ (6#32).getLsbD 2 = true ∧ (2#32).getLsbD 1 = true ∧ (2#32).getLsbD 2 = false ∧
      (4#32).getLsbD 1 = false ∧ (4#32).getLsbD 2 = true ∧ (8#32).getLsbD 1 = false ∧ (8#32).getLsbD 2 = false) ∧
    ({ State.reset with inputs := wr .ctrl 1#32 } : State).inputs = [.hostWrite 0x008#12 1#32] := by decide +kernel

theorem witness_NopCompletesAtOnce : (ready 0x1003#32 0#32 0#32).phase = .idle := by decide

/-- DECODE with adjacent buffers that end at 2^32 exactly, and with COUNT = 0. -/
theorem witness_StreamCommandsStart :
    streamFormats (.decode .scale255) = some (.rgba8, .lin) ∧ (Instr.decode .scale255).wf = true ∧
      (ready 0xFFFFFFF0#32 0xFFFFFFB0#32 4#32).phase = .idle ∧ samplesGrid (.decode .scale255) = false ∧
      buffersGood Elem.rgba8.size Elem.lin.size (0xFFFFFFF0#32).toNat (0xFFFFFFB0#32).toNat (4#32).toNat ∧
      buffersGood Elem.rgba8.size Elem.lin.size (0x1000#32).toNat (0x1000#32).toNat (0#32).toNat := by
  unfold buffersGood; decide

/-- The image that ends at 2^32 exactly. -/
theorem witness_GridCommandsStart :
    (ready 0xFFFE0000#32 0xFFFE0000#32 0x00200400#32).phase = .idle ∧ transformLegal Chain.none true = true ∧
      (0xFFFE0000#32).toNat % 4 = 0 ∧ (0xFFFE0000#32).toNat + 131072 ≤ 2 ^ 32 := by decide

theorem witness_SamplersNeedGrid :
    samplesGrid .applyNearest = true ∧ State.reset.phase = .idle ∧ State.reset.gvalid = false := by decide

theorem witness_WrongImageSizeRejected :
    (ready 0#32 0#32 0x00200401#32).phase = .idle ∧ (0x00200401#32).extractLsb' 0 16 ≠ 1024#16 ∧
      (0x00000400#32).extractLsb' 16 16 ≠ 32#16 := by decide

theorem witness_MisalignedBufferRejected :
    streamFormats (.decode .scale255) = some (.rgba8, .lin) ∧ (Instr.decode .scale255).wf = true ∧
      samplesGrid (.decode .scale255) = false ∧ (ready 0x1002#32 0x2008#32 0#32).phase = .idle ∧
      (0x1002#32).toNat % Elem.rgba8.size ≠ 0 ∧ (0x1000#32).toNat % Elem.rgba8.size = 0 ∧
      (0x2008#32).toNat % Elem.lin.size ≠ 0 ∧ (ready 0x1002#32 0x1002#32 0x00200400#32).phase = .idle ∧
      (0x1002#32).toNat % 4 ≠ 0 := by decide

/-- Buffers that end one element beyond 2^32, and exactly at it. -/
theorem witness_BufferBeyondTopRejected :
    streamFormats (.pipe .scale255 .scale255 Chain.none false) = some (.rgba8, .rgba8) ∧
      (Instr.pipe .scale255 .scale255 Chain.none false).wf = true ∧
      samplesGrid (.pipe .scale255 .scale255 Chain.none false) = false ∧
      (ready 0xFFFFFFF0#32 0x2000#32 5#32).phase = .idle ∧ (0xFFFFFFF0#32).toNat % Elem.rgba8.size = 0 ∧
      (0x2000#32).toNat % Elem.rgba8.size = 0 ∧ 2 ^ 32 < (0xFFFFFFF0#32).toNat + Elem.rgba8.size * (5#32).toNat ∧
      (0xFFFFFFF0#32).toNat + Elem.rgba8.size * (4#32).toNat ≤ 2 ^ 32 ∧
      2 ^ 32 < (0xFFFFFFF4#32).toNat + Elem.rgba8.size * (4#32).toNat ∧
      (ready 0xFFFE0004#32 0xFFFE0004#32 0x00200400#32).phase = .idle ∧ (0xFFFE0004#32).toNat % 4 = 0 ∧
      2 ^ 32 < (0xFFFE0004#32).toNat + 131072 := by decide

/-- Section 2.12: DST = 0x1004 with SRC = 0x1000 and two pixels. -/
theorem witness_OverlappingBuffersRejected :
    streamFormats (.applyTri true) = some (.rgba8, .rgba8) ∧ (Instr.applyTri true).wf = true ∧
      ({ ready 0x1000#32 0x1004#32 2#32 with gvalid := true } : State).phase = .idle ∧
      ({ ready 0x1000#32 0x1004#32 2#32 with gvalid := true } : State).gvalid = true ∧
      (0x1000#32).toNat % Elem.rgba8.size = 0 ∧ (0x1004#32).toNat % Elem.rgba8.size = 0 ∧
      (0x1000#32).toNat + Elem.rgba8.size * (2#32).toNat ≤ 2 ^ 32 ∧
      (0x1004#32).toNat + Elem.rgba8.size * (2#32).toNat ≤ 2 ^ 32 ∧
      ¬buffersGood Elem.rgba8.size Elem.rgba8.size (0x1000#32).toNat (0x1004#32).toNat (2#32).toNat := by
  unfold buffersGood; decide

/-- The last word read of the last XFORM element of a buffer that ends at 2^32. -/
theorem witness_StreamElementReads :
    streamFormats (.xform Chain.none true) = some (.lin, .lin) ∧
      (busyAt 0xFFFFFFC0#32 0#32 4#32 3#32 [1#32, 2#32] 0).phase = .run [1#32, 2#32] 0 ∧
      (3#32).toNat < (4#32).toNat ∧ [1#32, 2#32].length < Elem.lin.reads ∧
      portGood (busyAt 0xFFFFFFC0#32 0#32 4#32 3#32 [1#32, 2#32] 0)
        ((0xFFFFFFC0#32).toNat + Elem.lin.size * (3#32).toNat + 4 * [1#32, 2#32].length) :=
  ⟨by decide, by decide, by decide, by decide, portGood_of_reset_bus rfl (by decide) (by decide)⟩

/-- The first and the last write of a LIN element at the top of memory: DECODE. -/
theorem witness_DecodeWritesLinearColour :
    ((elementState [5#32] 0).phase = .run [5#32] 0 ∧ (elementState [5#32] 3).phase = .run [5#32] 3) ∧
      (elementState [5#32] 3).progress.toNat < (elementState [5#32] 3).count.toNat ∧
      portGood (elementState [5#32] 0) ((elementState [5#32] 0).dst.toNat + 16 * (elementState [5#32] 0).progress.toNat + 4 * 0) ∧
      portGood (elementState [5#32] 3) ((elementState [5#32] 3).dst.toNat + 16 * (elementState [5#32] 3).progress.toNat + 4 * 3) :=
  ⟨by decide, by decide, portGood_of_reset_bus rfl (by decide) (by decide), portGood_of_reset_bus rfl (by decide) (by decide)⟩

theorem witness_EncodeWritesPixel :
    (elementState [1#32, 2#32, 3#32] 0).phase = .run [1#32, 2#32, 3#32] 0 ∧
      (elementState [1#32, 2#32, 3#32] 0).progress.toNat < (elementState [1#32, 2#32, 3#32] 0).count.toNat ∧
      portGood (elementState [1#32, 2#32, 3#32] 0)
        ((elementState [1#32, 2#32, 3#32] 0).dst.toNat + 4 * (elementState [1#32, 2#32, 3#32] 0).progress.toNat) :=
  ⟨by decide, by decide, portGood_of_reset_bus rfl (by decide) (by decide)⟩

theorem witness_XformWritesTransformedColour :
    ((elementState [1#32, 2#32, 3#32] 0).phase = .run [1#32, 2#32, 3#32] 0 ∧
      (elementState [1#32, 2#32, 3#32] 3).phase = .run [1#32, 2#32, 3#32] 3) ∧
      (elementState [1#32, 2#32, 3#32] 3).progress.toNat < (elementState [1#32, 2#32, 3#32] 3).count.toNat ∧
      portGood (elementState [1#32, 2#32, 3#32] 3)
        ((elementState [1#32, 2#32, 3#32] 3).dst.toNat + 16 * (elementState [1#32, 2#32, 3#32] 3).progress.toNat + 4 * 3) :=
  ⟨by decide, by decide, portGood_of_reset_bus rfl (by decide) (by decide)⟩

/-- One witness for the four commands from RGBA8 to RGBA8, whose write statements have the same hypotheses: PIPE. -/
theorem witness_PipeWritesPixel :
    (elementState [5#32] 0).phase = .run [5#32] 0 ∧
      (elementState [5#32] 0).progress.toNat < (elementState [5#32] 0).count.toNat ∧
      portGood (elementState [5#32] 0) ((elementState [5#32] 0).dst.toNat + 4 * (elementState [5#32] 0).progress.toNat) :=
  ⟨by decide, by decide, portGood_of_reset_bus rfl (by decide) (by decide)⟩

theorem witness_ApplyTriWritesBlend :
    (elementState [0x00FF0003#32] 0).phase = .run [0x00FF0003#32] 0 ∧
      (elementState [0x00FF0003#32] 0).progress.toNat < (elementState [0x00FF0003#32] 0).count.toNat ∧
      portGood (elementState [0x00FF0003#32] 0)
        ((elementState [0x00FF0003#32] 0).dst.toNat + 4 * (elementState [0x00FF0003#32] 0).progress.toNat) :=
  ⟨by decide, by decide, portGood_of_reset_bus rfl (by decide) (by decide)⟩

theorem witness_ApplyNearestWritesCell :
    (elementState [0xFFFFFFFF#32] 0).phase = .run [0xFFFFFFFF#32] 0 ∧
      (elementState [0xFFFFFFFF#32] 0).progress.toNat < (elementState [0xFFFFFFFF#32] 0).count.toNat ∧
      portGood (elementState [0xFFFFFFFF#32] 0)
        ((elementState [0xFFFFFFFF#32] 0).dst.toNat + 4 * (elementState [0xFFFFFFFF#32] 0).progress.toNat) :=
  ⟨by decide, by decide, portGood_of_reset_bus rfl (by decide) (by decide)⟩

theorem witness_ApplyMonoWritesRampEntry :
    (elementState [0#32] 0).phase = .run [0#32] 0 ∧
      (elementState [0#32] 0).progress.toNat < (elementState [0#32] 0).count.toNat ∧
      portGood (elementState [0#32] 0) ((elementState [0#32] 0).dst.toNat + 4 * (elementState [0#32] 0).progress.toNat) :=
  ⟨by decide, by decide, portGood_of_reset_bus rfl (by decide) (by decide)⟩

theorem witness_BuildFillsCell :
    (busyAt 0#32 0#32 0#32 32767#32 [] 0).phase = .run [] 0 ∧ (32767#32).toNat < 32768 := by decide

theorem witness_LutLoadFillsCell :
    (busyAt 0xFFFE0000#32 0#32 0x00200400#32 32767#32 [] 0).phase = .run [] 0 ∧ (32767#32).toNat < 32768 ∧
      portGood (busyAt 0xFFFE0000#32 0#32 0x00200400#32 32767#32 [] 0) ((0xFFFE0000#32).toNat + 4 * (32767#32).toNat) :=
  ⟨by decide, by decide, portGood_of_reset_bus rfl (by decide) (by decide)⟩

theorem witness_LutStoreWritesCell :
    (busyAt 0#32 0xFFFE0000#32 0x00200400#32 32767#32 [] 0).phase = .run [] 0 ∧ (32767#32).toNat < 32768 ∧
      portGood (busyAt 0#32 0xFFFE0000#32 0x00200400#32 32767#32 [] 0) ((0xFFFE0000#32).toNat + 4 * (32767#32).toNat) :=
  ⟨by decide, by decide, portGood_of_reset_bus rfl (by decide) (by decide)⟩

/-- A failing read and a failing write of DECODE (section 2.12). -/
theorem witness_BusErrorEndsCommand :
    let r := { busyAt 0x1000#32 0x2000#32 3#32 1#32 [] 0 with noResponse := [0x1004#32] }
    let w := { busyAt 0x1000#32 0x2000#32 3#32 1#32 [5#32] 2 with noResponse := [0x2018#32] }
    let c := commandOf (.decode .scale255)
    (r.phase = .run [] 0 ∧ r.progress.toNat < c.elements.number r ∧ ([] : List Word).length < c.reads ∧
      c.inputAddress r r.progress.toNat 0 = 0x1004 ∧ r.busOk 0x1004 = false) ∧
    w.phase = .run [5#32] 2 ∧ w.progress.toNat < c.elements.number w ∧ c.reads ≤ [5#32].length ∧ 2 < c.writes ∧
      c.outputAddress w w.progress.toNat 2 = 0x2018 ∧ w.busOk 0x2018 = false := by decide +kernel

theorem witness_CommandsLeaveLockedState :
    nextHas (exec (.build .scale255 .scale255 Chain.none false) State.reset) (fun _ => true) = true ∧
      nextHas (exec .lutStore (busyAt 0#32 0x2000#32 0x00200400#32 0#32 [] 0)) (fun _ => true) = true ∧
      (commandOf .lutStore).fillsGrid = false ∧
      (commandOf (.build .scale255 .scale255 Chain.none false)).output = none := by decide +kernel

/-- The reset tables meet the hypotheses of the encode statement and of the round trip. -/
theorem witness_EncodeIsLargestThreshold : ∀ k : Fin 254,
    (tableEntry (State.reset.encTable .scale255) k.val).toInt ≤
      (tableEntry (State.reset.encTable .scale255) (k.val + 1)).toInt := by decide +kernel

theorem witness_GammaRoundTrip : ∀ k : Fin 255,
    (tableEntry (State.reset.decTable .scale256) k.val).toInt < (tableEntry (State.reset.encTable .scale256) k.val).toInt ∧
      (tableEntry (State.reset.encTable .scale256) k.val).toInt ≤
        (tableEntry (State.reset.decTable .scale256) (k.val + 1)).toInt := by decide +kernel

theorem witness_BlendBounds : (0 : Int) ≤ 0 ∧ (7 : Int) < 8 := by decide

theorem witness_GreyLuminanceIsExact :
    State.reset.luma = lumaWeights ∧
      State.reset.enc .scale255 (State.reset.dec .scale255 128#8) = 128#8 := by decide +kernel

theorem witness_ResetMeetsInvariant : Memory.wf [(4, 1#8), (4294967295, 2#8)] := by decide

/-- Not only idle states meet the invariant: BUILD in the middle. -/
theorem witness_Inv_running :
    Inv { busyAt 0#32 0#32 0#32 100#32 [] 0 with cmd := 0x65#32, grid := [(7, 1#32)] } :=
  ⟨by decide, by decide, by unfold reportConsistent; decide, .build .scale256 .scale256 Chain.none false, by decide,
    by unfold underWay; decide +kernel⟩

/-- That running state steps, and so meets all hypotheses of the statement that steps keep the invariant. -/
theorem witness_StepKeepsInvariant :
    nextHas (step { busyAt 0#32 0#32 0#32 100#32 [] 0 with cmd := 0x65#32, grid := [(7, 1#32)] }) (fun _ => true) =
      true := by decide +kernel

theorem witness_InvariantRulesOutFaults :
    Inv { busyAt 0#32 0#32 0#32 100#32 [] 0 with cmd := 0x65#32, grid := [(7, 1#32)] } := witness_Inv_running

theorem witness_EveryCommandEnds :
    let s := { busyAt 0#32 0#32 0#32 100#32 [] 0 with cmd := 0x65#32, grid := [(7, 1#32)] }
    Inv s ∧ s.inputs = [] ∧ s.phase = .run [] 0 ∧
      decode s.cmd = some (.build .scale256 .scale256 Chain.none false) :=
  ⟨witness_Inv_running, by decide, by decide, by decide⟩

/-- Both kinds of host access at an offset that is no multiple of 4 arise (rule R125). -/
theorem test_misaligned_host_access :
    (match step { State.reset with inputs := [.hostRead 0x00E#12] } with
      | .refused r => r == .misalignedHostAccess 0x00E#12
      | _ => false) = true ∧
    (match step { State.reset with inputs := [.hostWrite 0x011#12 1#32] } with
      | .refused r => r == .misalignedHostAccess 0x011#12
      | _ => false) = true := by decide +kernel

/-- A run in place of two pixels through APPLY_TRI with a valid grid. -/
theorem witness_StreamRunMapsEveryPixel :
    let s := { ready 0x1000#32 0x1000#32 2#32 with inputs := [.hostWrite 0x010#12 0x00000016#32], gvalid := true }
    encode (.applyTri true) = 0x00000016#32 ∧ (pixelFunction s (.applyTri true)).isSome = true ∧ s.phase = .idle ∧
      s.gvalid = true ∧ buffersGood 4 4 s.src.toNat s.dst.toNat s.count.toNat ∧
      ∀ e, e < s.count.toNat → s.busOk (s.src.toNat + 4 * e) = true ∧ s.busOk (s.dst.toNat + 4 * e) = true := by
  refine ⟨by decide, by decide, by decide, by decide, by unfold buffersGood; decide, fun e _ => ?_⟩
  exact ⟨rfl, rfl⟩

theorem witness_BuildRunFillsGrid :
    transformLegal Chain.none true = true ∧
      ({ State.reset with inputs := [.hostWrite 0x010#12 (encode (.build .scale256 .scale256 Chain.none true))] } :
        State).phase = .idle := by decide

/-- An image that ends at 2^32. -/
theorem witness_StoreThenLoadRestoresGrid :
    let s := { ready 0xFFFE0000#32 0xFFFE0000#32 0x00200400#32 with inputs := [.hostWrite 0x010#12 0x0000000A#32] }
    s.phase = .idle ∧ s.inputs = [.hostWrite 0x010#12 0x0000000A#32] ∧ s.count = 0x00200400#32 ∧ s.src = s.dst ∧
      s.dst.toNat % 4 = 0 ∧ s.dst.toNat + 131072 ≤ 2 ^ 32 ∧
      ∀ m, m < 32768 → s.busOk (s.dst.toNat + 4 * m) = true :=
  ⟨by decide, by decide, by decide, by decide, by decide, by decide, fun _ _ => rfl⟩

/-- A grid that lists every cell with its identity value meets the hypothesis of the identity statement. -/
def identityGridState : State :=
  { State.reset with
    grid := (List.range 32768).map fun n =>
      (n, pack (BitVec.ofNat 8 (8 * (n % 32) + 4)) (BitVec.ofNat 8 (8 * (n / 32 % 32) + 4))
        (BitVec.ofNat 8 (8 * (n / 1024) + 4)) 255#8) }

theorem cellGet_map_range (f : Nat → Word) (k : Nat) : ∀ m n, k < m →
    cellGet ((List.range' n m).map fun x => (x, f x)) (n + k) = some (f (n + k)) := by
  induction k with
  | zero =>
    intro m n h
    obtain ⟨m, rfl⟩ : ∃ m', m = m' + 1 := ⟨m - 1, by omega⟩
    simp [List.range'_succ]
  | succ k ih =>
    intro m n h
    obtain ⟨m, rfl⟩ : ∃ m', m = m' + 1 := ⟨m - 1, by omega⟩
    have := ih m (n + 1) (by omega)
    simp only [List.range'_succ, List.map_cons, cellGet_cons, show ¬ n = n + (k + 1) by omega, if_false]
    rw [show n + (k + 1) = n + 1 + k by omega]
    exact this

theorem witness_IdentityGridIsExact :
    ∀ i j k, i < 32 → j < 32 → k < 32 → identityGridState.gridAt (1024 * i + 32 * j + k) =
      pack (BitVec.ofNat 8 (8 * k + 4)) (BitVec.ofNat 8 (8 * j + 4)) (BitVec.ofNat 8 (8 * i + 4)) 255#8 := by
  intro i j k hi hj hk
  have h := cellGet_map_range (fun n => pack (BitVec.ofNat 8 (8 * (n % 32) + 4)) (BitVec.ofNat 8 (8 * (n / 32 % 32) + 4))
        (BitVec.ofNat 8 (8 * (n / 1024) + 4)) 255#8) (1024 * i + 32 * j + k) 32768 0 (by omega)
  rw [Nat.zero_add] at h
  rw [State.gridAt, identityGridState, List.range_eq_range', h]
  simp only [Option.getD_some]
  rw [show (1024 * i + 32 * j + k) % 32 = k by omega, show (1024 * i + 32 * j + k) / 32 % 32 = j by omega,
    show (1024 * i + 32 * j + k) / 1024 = i by omega]

/-- The last word of memory, while a command runs. -/
theorem witness_OtherMastersAccessMemory :
    let s := busyAt 0#32 0#32 0#32 100#32 [] 0
    ({ s with inputs := [.memWrite 0x3FFFFFFF#30 7#32] } : State).inputs = .memWrite 0x3FFFFFFF#30 7#32 :: [] ∧
      ({ s with inputs := [.memRead 0x3FFFFFFF#30] } : State).inputs = .memRead 0x3FFFFFFF#30 :: [] := by decide

/-- Rule R102: the bytes of a word another master writes lie little-endian. -/
theorem test_memWrite_bytes :
    nextHas (step { State.reset with inputs := [.memWrite 0x3FFFFFFF#30 0x44332211#32] })
      (fun t => t.mem.byte 0xFFFFFFFC == 0x11#8 && t.mem.byte 0xFFFFFFFF == 0x44#8) = true := by decide +kernel

end Sys2Proof.Tests
end

namespace Sys2Proof.Machine

/-! # What every step keeps (O53)

One lemma for each shared operation says that it keeps the invariant; the cases of an engine step are those of
`engineStep_cases`, `readStep_cases` and `writeStep_cases`. -/

/-! ## Commands and their words -/

/-- The decoder gives back every well-formed command from its word (rule R151), so that CMD of a running command
decodes to it. -/
theorem decode_encode_of_wf {i : Instr} (h : i.wf = true) : decode (encode i) = some i := by
  cases i with
  | nop => decide
  | decode db => cases db <;> decide
  | encode eb => cases eb <;> decide
  | xform ch xs => obtain ⟨a, b, c⟩ := ch; revert a b c xs; decide
  | pipe db eb ch xs => obtain ⟨a, b, c⟩ := ch; cases db <;> cases eb <;> revert a b c xs <;> decide
  | build db eb ch xs => obtain ⟨a, b, c⟩ := ch; cases db <;> cases eb <;> revert a b c xs <;> decide
  | applyTri x => cases x <;> decide
  | applyNearest => decide
  | applyMono db eb ms => cases db <;> cases eb <;> cases ms <;> decide
  | lutLoad => decide
  | lutStore => decide

/-- No command both fills the grid and samples it, so clearing GVALID at its start (rule R182) does not undo its
validation. -/
theorem needsGrid_of_fillsGrid {i : Instr} (h : (commandOf i).fillsGrid = true) : (commandOf i).needsGrid = false := by
  cases i with
  | build => rfl
  | lutLoad => rfl
  | _ => cases h

/-- A command that fills the grid writes cells of the grid only (rules R250 and R280). -/
theorem cell_lt_cells {i : Instr} (h : (commandOf i).fillsGrid = true) (s : State) {e : Nat} (l : List Word)
    (he : e < Config.cells) : ((commandOf i).cell s e l).1 < Config.cells := by
  cases i with
  | build => exact he
  | lutLoad => exact imageCell_lt he
  | _ => cases h

/-- Validation looks at SRC, DST, COUNT and, for a command that samples the grid, GVALID only (rule R181). -/
theorem firstError_eq_none_congr {c : Command} {s t : State} (hsrc : t.src = s.src) (hdst : t.dst = s.dst)
    (hcount : t.count = s.count) (hgrid : c.needsGrid = true → s.gvalid = true → t.gvalid = true)
    (h : c.firstError s = none) : c.firstError t = none := by
  rw [firstError_eq_none_iff] at h ⊢
  rw [hsrc, hdst, hcount, elements_number_congr _ hcount]
  obtain ⟨hlegal, hvalid, hrest⟩ := h
  exact ⟨hlegal, fun hn => hgrid hn (hvalid hn), hrest⟩

/-- The element count of rule R154 fits a word. -/
theorem elements_number_lt (e : Elements) (s : State) : e.number s < 2 ^ 32 := by
  cases e with
  | none => simp [Elements.number]
  | count => exact s.count.isLt
  | cells => simp only [Elements.number, Config.cells, Config.edge, Config.lutBits]; omega

/-! ## The invariant: its parts -/

/-- An idle engine is consistent whatever the rest of the state. -/
theorem engineConsistent_of_idle {s : State} (h : s.phase = .idle) : engineConsistent s := by
  simp [engineConsistent, h]

/-- In phase RUN, consistency is what `underWay` says of the command in CMD. -/
theorem engineConsistent_run_iff {s : State} {l : List Word} {k : Nat} (h : s.phase = .run l k) :
    engineConsistent s ↔ ∃ i, decode s.cmd = some i ∧ underWay (commandOf i) s l k := by
  simp [engineConsistent, h]

/-- The command CMD holds is under way in every running state that meets the invariant. -/
theorem underWay_of_inv {s : State} {i : Instr} {l : List Word} {k : Nat} (hs : Inv s) (hp : s.phase = .run l k)
    (hd : decode s.cmd = some i) : underWay (commandOf i) s l k := by
  obtain ⟨-, -, -, heng⟩ := hs
  obtain ⟨j, hj, hu⟩ := (engineConsistent_run_iff hp).mp heng
  cases hj.symm.trans hd
  exact hu

/-- A command stands properly at the beginning of an element (rules R182 and R186). -/
theorem underWay_beginning {c : Command} {s : State} (hv : c.firstError s = none)
    (hn : s.progress.toNat < c.elements.number s) (hdone : s.done = false) (herr : s.err = false)
    (haddr : s.errAddr = 0#32) (hgrid : c.fillsGrid = true → s.gvalid = false) : underWay c s [] 0 :=
  ⟨hv, hn, Nat.zero_le _, fun h => absurd h (Nat.lt_irrefl 0), fun h _ => h.symm, hdone, herr, haddr, hgrid⟩

/-- The report of an error is consistent: no code is 0 or reserved (rule R300). -/
theorem reportConsistent_raise (s : State) (e : CmdError) (a : Word) : reportConsistent (s.raise e a) := by
  simp only [reportConsistent, raise_err, raise_errCode]
  cases e <;> decide

/-- A cleared report is consistent. -/
theorem reportConsistent_clear {s : State} (he : s.err = false) (hc : s.errCode = 0#4) : reportConsistent s := by
  simp [reportConsistent, he, hc]

/-- The report is seen in ERR and ERRCODE only. -/
theorem reportConsistent_congr {s t : State} (h : reportConsistent s) (he : t.err = s.err)
    (hc : t.errCode = s.errCode) : reportConsistent t := by
  simpa only [reportConsistent, he, hc] using h

/-- Clearing bits of STATUS keeps the report consistent: ERR and ERRCODE are cleared together (rule R174). -/
theorem reportConsistent_writeStatus {s : State} (w : Word) (h : reportConsistent s) :
    reportConsistent (s.writeStatus w) := by
  unfold State.writeStatus
  cases w.getLsbD 2 with
  | true => exact reportConsistent_clear (Bool.and_false _) rfl
  | false => exact reportConsistent_congr h (Bool.and_true _) rfl

/-! ## The invariant: what leaves it -/

/-- An idle state with the report and the stores of one that meets the invariant meets it. -/
theorem inv_of_idle {s t : State} (hs : Inv s) (hp : t.phase = .idle) (hm : t.mem = s.mem) (hg : t.grid = s.grid)
    (he : t.err = s.err) (hc : t.errCode = s.errCode) : Inv t := by
  obtain ⟨hmem, hgrid, hrep, -⟩ := hs
  exact ⟨hm ▸ hmem, hg ▸ hgrid, reportConsistent_congr hrep he hc, engineConsistent_of_idle hp⟩

/-! The invariant says nothing of the inputs to come, of OVR, of the enables or of the value last read. -/

theorem inv_inputs {s : State} (rest : List Input) (h : Inv s) : Inv { s with inputs := rest } := h
theorem inv_ovr {s : State} (b : Bool) (h : Inv s) : Inv { s with ovr := b } := h
theorem inv_enables {s : State} (d e : Bool) (h : Inv s) : Inv { s with ieDone := d, ieErr := e } := h
theorem inv_readData {s : State} (w : Word) (h : Inv s) : Inv { s with readData := w } := h

/-- A word stored in the address space, by the engine or another master (rules R100 and R111). -/
theorem inv_setWord {s : State} {a : Nat} (w : Word) (h : Inv s) (ha : a + 3 < Config.addresses) :
    Inv { s with mem := s.mem.setWord a w } := by
  obtain ⟨hmem, hrest⟩ := h
  exact ⟨wf_setWord w hmem ha, hrest⟩

/-- A cell stored in the grid (rule R59). -/
theorem inv_setGrid {s : State} {n : Nat} (w : Word) (h : Inv s) (hn : n < Config.cells) : Inv (s.setGrid n w) := by
  obtain ⟨hmem, hgrid, hrest⟩ := h
  exact ⟨hmem, gridWf_cellSet w hgrid hn, hrest⟩

/-- The error end (rule R320). -/
theorem inv_raise {s : State} (e : CmdError) (a : Word) (h : Inv s) : Inv (s.raise e a) := by
  obtain ⟨hmem, hgrid, -, -⟩ := h
  exact ⟨hmem, hgrid, reportConsistent_raise s e a, engineConsistent_of_idle rfl⟩

/-- Reset leaves only system memory, which it does not touch (rule R340). -/
theorem inv_resetBlock {s : State} (h : Inv s) : Inv s.resetBlock :=
  ⟨h.1, ⟨List.Pairwise.nil, nofun⟩, reportConsistent_clear rfl rfl, engineConsistent_of_idle rfl⟩

/-! ## Acceptance -/

/-- A validated command that has elements is under way from its first (rules R180 and R182). -/
theorem underWay_running {i : Instr} {s : State}
    (hv : (commandOf i).firstError (s.accept (encode i)) = none) (hn : (commandOf i).elements.number s ≠ 0) :
    underWay (commandOf i) { running s (encode i) with gvalid := s.gvalid && !(commandOf i).fillsGrid } [] 0 := by
  have hgrid (hneeds : (commandOf i).needsGrid = true) (hvalid : s.gvalid = true) :
      (s.gvalid && !(commandOf i).fillsGrid) = true := by
    cases hf : (commandOf i).fillsGrid with
    | false => simpa using hvalid
    | true => exact absurd hneeds (by simp [needsGrid_of_fillsGrid hf])
  exact underWay_beginning (firstError_eq_none_congr (s := s.accept (encode i)) rfl rfl rfl hgrid hv)
    ((Nat.pos_of_ne_zero hn).trans_eq (elements_number_congr _ rfl).symm) rfl rfl rfl (fun hf => by simp [hf])

/-- Acceptance keeps the invariant, whether it rejects the command, ends it at once or starts it (rules R180 to R182). -/
theorem inv_begin (i : Instr) {s : State} (hs : Inv s) : Inv ((commandOf i).begin s) := by
  obtain ⟨hmem, hgrid, -, -⟩ := hs
  rcases begin_cases (commandOf i) s with ⟨e, a, -, heq⟩ | ⟨hv, heq⟩
  · rw [heq]
    exact ⟨hmem, hgrid, reportConsistent_raise _ e a, engineConsistent_of_idle rfl⟩
  · rw [commandOf_word] at hv heq
    rw [heq, start_accept_eq]
    split
    · exact ⟨hmem, hgrid, reportConsistent_clear rfl rfl, engineConsistent_of_idle rfl⟩
    · rename_i hn
      have hwf : i.wf = true := by
        obtain ⟨hlegal, -⟩ := (firstError_eq_none_iff _ _).mp hv
        rwa [commandOf_legal] at hlegal
      exact ⟨hmem, hgrid, reportConsistent_clear rfl rfl,
        (engineConsistent_run_iff rfl).mpr ⟨i, decode_encode_of_wf hwf, underWay_running hv hn⟩⟩

/-! ## Engine steps -/

/-- The engine goes on to the next element or completes (rules R186 and R187). -/
theorem inv_elementDone {i : Instr} {s : State} {l : List Word} {k : Nat} (fills : Bool) (hs : Inv s)
    (hd : decode s.cmd = some i) (hu : underWay (commandOf i) s l k) :
    Inv (elementDone s ((commandOf i).elements.number s) fills) := by
  obtain ⟨hmem, hgrid, hrep, -⟩ := hs
  obtain ⟨hv, -, -, -, -, hdone, herr, haddr, hfill⟩ := hu
  unfold elementDone
  split
  · rename_i hlt
    have hnext : (s.progress + 1#32).toNat = s.progress.toNat + 1 := by
      have := elements_number_lt (commandOf i).elements s
      simp only [BitVec.toNat_add, BitVec.toNat_ofNat]
      omega
    have hn : (s.progress + 1#32).toNat < (commandOf i).elements.number s := by omega
    exact ⟨hmem, hgrid, hrep, (engineConsistent_run_iff rfl).mpr
      ⟨i, hd, underWay_beginning hv hn hdone herr haddr hfill⟩⟩
  · exact ⟨hmem, hgrid, hrep, engineConsistent_of_idle rfl⟩

/-- The end of an element, its grid cell included (rules R186 and R187). -/
theorem inv_finishElement {i : Instr} {s : State} {l : List Word} {k : Nat} (l' : List Word) (hs : Inv s)
    (hd : decode s.cmd = some i) (hu : underWay (commandOf i) s l k) :
    Inv ((commandOf i).finishElement s s.progress.toNat l') := by
  rw [finishElement_eq]
  split
  · rename_i hf
    have hn : s.progress.toNat < Config.cells := by
      obtain ⟨-, hn, -⟩ := hu
      rwa [elements_of_fillsGrid i hf] at hn
    have hset := inv_setGrid ((commandOf i).cell s s.progress.toNat l').2 hs (cell_lt_cells hf s l' hn)
    exact inv_elementDone _ hset hd hu
  · exact inv_elementDone _ hs hd hu

/-- An engine step of the running command keeps the invariant (rule R186). -/
theorem inv_engineStep {i : Instr} {s t : State} {l : List Word} {k : Nat} (hs : Inv s) (hp : s.phase = .run l k)
    (hd : decode s.cmd = some i) (h : (commandOf i).engineStep s l k = .next t) : Inv t := by
  have hu := underWay_of_inv hs hp hd
  have ⟨hv, hn, hlen, hwritten, _, hreport⟩ := hu
  obtain ⟨-, ⟨hr, h⟩ | ⟨hr, hw, h⟩ | ⟨-, -, rfl⟩⟩ := engineStep_cases h
  · obtain ⟨-, rfl⟩ | ⟨-, ⟨-, -, rfl⟩ | ⟨hmore, rfl⟩⟩ := readStep_cases h
    · exact inv_raise _ _ hs
    · exact inv_finishElement _ hs hd hu
    · obtain ⟨hmem, hgrid, hrep, -⟩ := hs
      refine ⟨hmem, hgrid, hrep, (engineConsistent_run_iff rfl).mpr ⟨i, hd, hv, hn, ?_, ?_, ?_, hreport⟩⟩
      · simpa using hr
      · exact fun h0 => absurd h0 (Nat.lt_irrefl 0)
      · intro hlast hnone
        exact absurd ⟨by simpa using hlast, hnone⟩ hmore
  · obtain ⟨-, rfl⟩ | ⟨⟨hlt, hal, -⟩, hcase⟩ := writeStep_cases h
    · exact inv_raise _ _ hs
    · have hin : (commandOf i).outputAddress s s.progress.toNat k + 3 < Config.addresses := by
        simp only [Config.addresses]; omega
      have hs' := inv_setWord (((commandOf i).outWords s s.progress.toNat l).getD k 0#32) hs hin
      obtain ⟨-, rfl⟩ | ⟨hmore, rfl⟩ := hcase
      · exact inv_finishElement _ hs' hd hu
      · obtain ⟨hmem, hgrid, hrep, -⟩ := hs'
        exact ⟨hmem, hgrid, hrep, (engineConsistent_run_iff rfl).mpr ⟨i, hd, hv, hn, hlen,
          fun _ => ⟨by omega, by omega⟩, fun _ hnone => by omega, hreport⟩⟩
  · exact inv_finishElement _ hs hd hu

/-- A turn of the engine keeps the invariant (rules R170 and R335). -/
theorem inv_engineTurn {s t : State} (hs : Inv s) (h : engineTurn s = .next t) : Inv t := by
  unfold engineTurn at h
  split at h
  · cases h
    exact hs
  · rename_i l k hp
    split at h
    · rename_i i hd
      rw [exec_eq_step, step_run _ _ hp] at h
      exact inv_engineStep hs hp hd h
    · cases h

/-! ## Host access -/

/-- A command word written to CMD of an idle engine (rules R180 and R301). -/
theorem inv_startCommand {s t : State} {w : Word} (hs : Inv s) (hp : s.phase = .idle)
    (h : startCommand w s = .next t) : Inv t := by
  unfold startCommand at h
  split at h
  · rw [exec_eq_step, step_idle _ _ hp] at h
    cases h
    exact inv_begin _ hs
  · cases h
    obtain ⟨hmem, hgrid, -, -⟩ := hs
    exact ⟨hmem, hgrid, reportConsistent_raise _ _ _, engineConsistent_of_idle rfl⟩

/-- A write to CTRL: GVALID changes only while the engine is idle (rule R173). -/
theorem inv_writeCtrl {s : State} (w : Word) (hs : Inv s) : Inv (s.writeCtrl w) := by
  cases hb : s.busy with
  | false => exact inv_of_idle hs ((busy_eq_false_iff s).mp hb) rfl rfl rfl rfl
  | true => simpa [State.writeCtrl, hb] using inv_enables (w.getLsbD 0) (w.getLsbD 1) hs

/-- A write to STATUS: while a command runs its report is clear and stays so (rule R174). -/
theorem inv_writeStatus {s : State} (w : Word) (hs : Inv s) : Inv (s.writeStatus w) := by
  obtain ⟨hmem, hgrid, hrep, heng⟩ := hs
  refine ⟨hmem, hgrid, reportConsistent_writeStatus w hrep, ?_⟩
  cases hp : s.phase with
  | idle => exact engineConsistent_of_idle hp
  | run l k =>
    obtain ⟨i, hd, hv, hn, hlen, hwritten, hread, hdone, herr, haddr, hfill⟩ := (engineConsistent_run_iff hp).mp heng
    exact (engineConsistent_run_iff (s := s.writeStatus w) hp).mpr ⟨i, hd, hv, hn, hlen, hwritten, hread,
      by simp [hdone], by simp [herr], haddr, hfill⟩

/-- A cell written through the table port lies in the grid (rules R62 and R177). -/
theorem gridWf_setTableWord {s : State} {sel : BitVec 3} {x : Nat} (w : Word) (h : gridWf s.grid)
    (hr : tableRange sel x = true) : gridWf (s.setTableWord sel x w).grid := by
  unfold State.setTableWord
  split
  case h_6 hsel =>
    have hx : x < Config.cells := by simpa [tableRange, hsel] using hr
    exact gridWf_cellSet w h hx
  all_goals exact h

/-- A TAB_DATA write of an idle engine (rule R177). -/
theorem inv_writeTabData {s : State} (w : Word) (hs : Inv s) (hp : s.phase = .idle) : Inv (s.writeTabData w) := by
  unfold State.writeTabData
  split
  · rename_i hr
    obtain ⟨hmem, hgrid, hrep, -⟩ := hs
    exact ⟨by simpa using hmem, gridWf_setTableWord w hgrid hr, reportConsistent_congr hrep (by simp) (by simp),
      engineConsistent_of_idle (by simpa using hp)⟩
  · exact inv_of_idle hs hp rfl rfl rfl rfl

/-- A host write keeps the invariant: of a busy-locked register it only sets OVR while a command runs (rules R175 and
R178). -/
theorem inv_writeReg {r : Reg} {w : Word} {s t : State} (hs : Inv s) (h : writeReg r w s = .next t) : Inv t := by
  unfold writeReg at h
  split at h
  · cases h
    exact inv_ovr true hs
  · rename_i hb
    have hidle (hl : r.busyLocked = true) : s.phase = .idle := by
      simpa [hl, busy_eq_false_iff] using hb
    cases r with
    | cmd => exact inv_startCommand hs (hidle rfl) h
    | ctrl => cases h; exact inv_writeCtrl w hs
    | status => cases h; exact inv_writeStatus w hs
    | tabData => cases h; exact inv_writeTabData w hs (hidle rfl)
    | coef m i j => cases h; exact inv_of_idle hs (by simpa using hidle rfl) (by simp) (by simp) (by simp) (by simp)
    | src | dst | count | tabSel | tabIdx | luma => cases h; exact inv_of_idle hs (hidle rfl) rfl rfl rfl rfl
    | id | param | progress | errAddr | reserved => cases h; exact hs

/-- A host read keeps the invariant (rules R171 and R176). -/
theorem inv_hostRead {off : BitVec 12} {s t : State} (hs : Inv s) (h : hostRead off s = .next t) : Inv t := by
  have hread := inv_readData (s.readReg (regAt off)) hs
  unfold hostRead at h
  split at h
  · cases h
    split
    · exact hread
    · exact hread
  · cases h

/-- A host write at a word offset is the write of the register there (rules R125 and R178). -/
theorem inv_hostWrite {off : BitVec 12} {w : Word} {s t : State} (hs : Inv s) (h : hostWrite off w s = .next t) :
    Inv t := by
  unfold hostWrite at h
  split at h
  · exact inv_writeReg hs h
  · cases h

/-! ## The step -/

/-- Every input keeps the invariant. -/
theorem inv_takeInput {x : Input} {s t : State} (hs : Inv s) (h : takeInput x s = .next t) : Inv t := by
  cases x with
  | engine => exact inv_engineTurn hs h
  | hostRead off => exact inv_hostRead hs h
  | hostWrite off w => exact inv_hostWrite hs h
  | memRead word => cases h; exact inv_readData _ hs
  | memWrite word w =>
    cases h
    refine inv_setWord w hs ?_
    have := word.isLt
    simp only [wordAddress, Config.addresses]
    omega
  | reset => cases h; exact inv_resetBlock hs

/-- Settles O53: each input keeps the invariant, the engine's turn by the cases of an engine step. -/
theorem stepKeepsInvariant : Obligations.StepKeepsInvariant := by
  intro s t hs h
  unfold step at h
  split at h
  · exact inv_engineTurn hs h
  · exact inv_takeInput (inv_inputs _ hs) h

/-! # What no step of a command writes (O42) -/

/-- The state with the fields a command may write taken from another one. -/
def State.withCommandFields (s t : State) : State :=
  { s with
    gvalid := t.gvalid
    phase := t.phase
    done := t.done
    err := t.err
    errCode := t.errCode
    cmd := t.cmd
    progress := t.progress
    errAddr := t.errAddr
    grid := t.grid
    mem := t.mem }

/-- Every field a command does not write is the same in two states (rules R45 to R47 and R175). -/
def leavesLocked (s t : State) : Prop := t = s.withCommandFields t

theorem leavesLocked_trans {s t u : State} (hst : leavesLocked s t) (htu : leavesLocked t u) : leavesLocked s u :=
  calc u = t.withCommandFields u := htu
    _ = (s.withCommandFields t).withCommandFields u := congrArg (State.withCommandFields · u) hst
    _ = s.withCommandFields u := rfl

theorem leavesLocked_accept (s : State) (w : Word) : leavesLocked s (s.accept w) := rfl
theorem leavesLocked_raise (s : State) (e : CmdError) (a : Word) : leavesLocked s (s.raise e a) := rfl
theorem leavesLocked_setGrid (s : State) (n : Nat) (w : Word) : leavesLocked s (s.setGrid n w) := rfl
theorem leavesLocked_access (s : State) (m : Memory) (p : Phase) :
    leavesLocked s { s with mem := m, phase := p } := rfl

theorem leavesLocked_start (c : Command) (s : State) : leavesLocked s (c.start s) := by
  unfold Command.start
  dsimp only
  split <;> rfl

theorem leavesLocked_elementDone (s : State) (n : Nat) (fills : Bool) : leavesLocked s (elementDone s n fills) := by
  unfold elementDone
  split <;> rfl

theorem leavesLocked_finishElement (c : Command) (s : State) (l : List Word) :
    leavesLocked s (c.finishElement s s.progress.toNat l) := by
  rw [finishElement_eq]
  split
  · exact leavesLocked_trans (leavesLocked_setGrid ..) (leavesLocked_elementDone ..)
  · exact leavesLocked_elementDone ..

/-! ## Acceptance -/

theorem leavesLocked_begin (c : Command) (s : State) : leavesLocked s (c.begin s) := by
  refine leavesLocked_trans (leavesLocked_accept s c.word) ?_
  rcases begin_cases c s with ⟨e, a, -, heq⟩ | ⟨-, heq⟩
  · rw [heq]
    exact leavesLocked_raise ..
  · rw [heq]
    exact leavesLocked_start ..

@[simp] theorem begin_mem (c : Command) (s : State) : (c.begin s).mem = s.mem := by
  rcases begin_cases c s with ⟨e, a, -, heq⟩ | ⟨-, heq⟩ <;> simp [heq]

@[simp] theorem begin_grid (c : Command) (s : State) : (c.begin s).grid = s.grid := by
  rcases begin_cases c s with ⟨e, a, -, heq⟩ | ⟨-, heq⟩ <;> simp [heq]

@[simp] theorem begin_cmd (c : Command) (s : State) : (c.begin s).cmd = c.word := by
  rcases begin_cases c s with ⟨e, a, -, heq⟩ | ⟨-, heq⟩ <;> simp [heq]

/-- The start of a command that does not fill the grid leaves GVALID (rule R182). -/
theorem start_gvalid {c : Command} (hf : c.fillsGrid = false) (s : State) : (c.start s).gvalid = s.gvalid := by
  unfold Command.start
  dsimp only
  split <;> simp [hf]

theorem begin_gvalid {c : Command} (hf : c.fillsGrid = false) (s : State) : (c.begin s).gvalid = s.gvalid := by
  rcases begin_cases c s with ⟨e, a, -, heq⟩ | ⟨-, heq⟩
  · simp [heq]
  · simp [heq, start_gvalid hf]

/-! ## Engine steps -/

/-- The end of an element of a command that does not fill the grid leaves the grid and GVALID (rule R186). -/
theorem finishElement_grid_gvalid {c : Command} (hf : c.fillsGrid = false) (s : State) (l : List Word) :
    (c.finishElement s s.progress.toNat l).grid = s.grid ∧
      (c.finishElement s s.progress.toNat l).gvalid = s.gvalid := by
  simp only [finishElement_eq, hf, Bool.false_eq_true, if_false, elementDone]
  split <;> simp

/-- What an engine step comes to: the error end, or a memory that only a command with an output buffer changes, and with
it either another place in the element or the element's end (rules R105, R186 and R307). -/
theorem engineStep_outcome {c : Command} {s t : State} {l : List Word} {k : Nat} (h : c.engineStep s l k = .next t) :
    (∃ a, t = s.raise .busError a) ∨
      ∃ m, (c.output = none → m = s.mem) ∧
        ((∃ p, t = { s with mem := m, phase := p }) ∨
          ∃ l', t = c.finishElement { s with mem := m } s.progress.toNat l') := by
  obtain ⟨-, ⟨-, h⟩ | ⟨-, hw, h⟩ | ⟨-, -, rfl⟩⟩ := engineStep_cases h
  · obtain ⟨-, rfl⟩ | ⟨-, ⟨-, -, rfl⟩ | ⟨-, rfl⟩⟩ := readStep_cases h
    · exact .inl ⟨_, rfl⟩
    · exact .inr ⟨s.mem, fun _ => rfl, .inr ⟨_, rfl⟩⟩
    · exact .inr ⟨s.mem, fun _ => rfl, .inl ⟨_, rfl⟩⟩
  · have hout : c.output ≠ none := fun hnone => by simp [Command.writes, hnone] at hw
    obtain ⟨-, rfl⟩ | ⟨-, ⟨-, rfl⟩ | ⟨-, rfl⟩⟩ := writeStep_cases h
    · exact .inl ⟨_, rfl⟩
    · exact .inr ⟨_, fun hnone => absurd hnone hout, .inr ⟨_, rfl⟩⟩
    · exact .inr ⟨_, fun hnone => absurd hnone hout, .inl ⟨_, rfl⟩⟩
  · exact .inr ⟨s.mem, fun _ => rfl, .inr ⟨_, rfl⟩⟩

/-- What an engine step leaves: the locked fields and CMD; the grid and GVALID, unless the command fills the grid; memory,
unless the command has an output buffer. -/
theorem engineStep_leaves {c : Command} {s t : State} {l : List Word} {k : Nat} (h : c.engineStep s l k = .next t) :
    leavesLocked s t ∧ t.cmd = s.cmd ∧ (c.fillsGrid = false → t.grid = s.grid ∧ t.gvalid = s.gvalid) ∧
      (c.output = none → t.mem = s.mem) := by
  obtain ⟨a, rfl⟩ | ⟨m, hm, ⟨p, rfl⟩ | ⟨l', rfl⟩⟩ := engineStep_outcome h
  · exact ⟨leavesLocked_raise .., rfl, fun _ => ⟨rfl, rfl⟩, fun _ => rfl⟩
  · exact ⟨leavesLocked_access .., rfl, fun _ => ⟨rfl, rfl⟩, hm⟩
  · refine ⟨leavesLocked_trans (leavesLocked_access s m s.phase) (leavesLocked_finishElement c { s with mem := m } l'),
      finishElement_cmd .., fun hf => finishElement_grid_gvalid hf { s with mem := m } l', fun hnone => ?_⟩
    rw [finishElement_mem]
    exact hm hnone

/-- Settles O42: in phase IDLE by what acceptance leaves, in phase RUN by what an engine step leaves. -/
theorem commandsLeaveLockedState : Obligations.CommandsLeaveLockedState := by
  intro i s t h
  rw [exec_eq_step] at h
  cases hp : s.phase with
  | idle =>
    rw [step_idle _ _ hp] at h
    cases h
    exact ⟨leavesLocked_begin .., fun _ => ⟨begin_mem .., begin_grid .., by simp⟩, fun hne => absurd rfl hne,
      fun hf => ⟨begin_grid .., begin_gvalid hf s⟩, fun _ => begin_mem ..⟩
  | run l k =>
    rw [step_run _ _ hp] at h
    obtain ⟨hlocked, hcmd, hgrid, hmem⟩ := engineStep_leaves h
    exact ⟨hlocked, nofun, fun _ => hcmd, hgrid, hmem⟩

/-! # The luminance of a grey (O50) -/

/-- `sat32` leaves every value that a word can hold (rule R16). -/
theorem sat32_toInt (v : Word) : sat32 v.toInt = v := by
  have hlo := BitVec.le_toInt v
  have hhi := BitVec.toInt_lt (x := v)
  rw [sat32, max_eq_left (by simpa using hlo), min_eq_left (by omega), BitVec.ofInt_toInt]

/-- The reset weights add up to 1.0, so their sum of products with a grey is the grey's value scaled by it (rule R54). -/
theorem dot_lumaWeights_grey (v : Word) : dot lumaWeights ⟨v, v, v⟩ = v.toInt * 2 ^ Config.frac := by
  have h0 : (0x00366CF4#32).toInt = 0x366CF4 := by decide
  have h1 : (0x00B71759#32).toInt = 0xB71759 := by decide
  have h2 : (0x00127BB3#32).toInt = 0x127BB3 := by decide
  simp only [dot, lumaWeights, h0, h1, h2]
  ring

/-- Rounding leaves a value that is an integer already: half a unit is lost to the floor shift (rules R15 and R208). -/
theorem floorShift_round_exact (a : Int) (n : Nat) : floorShift (a * 2 ^ (n + 1) + 2 ^ n) (n + 1) = a := by
  have hpos : (0 : Int) < 2 ^ n := by positivity
  have hsucc : (2 : Int) ^ (n + 1) = 2 ^ n * 2 := pow_succ 2 n
  rw [floorShift, Int.add_comm, Int.add_mul_ediv_right _ _ (by omega), Int.ediv_eq_zero_of_lt hpos.le (by omega),
    Int.zero_add]

/-- The multiply-accumulate of the reset weights with a grey is the grey's value (rules R54 and R208). -/
theorem mac_lumaWeights_grey (v : Word) : mac lumaWeights ⟨v, v, v⟩ = v := by
  rw [mac, dot_lumaWeights_grey]
  exact (congrArg sat32 (floorShift_round_exact v.toInt 23)).trans (sat32_toInt v)

/-- A grey pixel decodes to a linear grey (rule R201). -/
theorem decodePixel_grey (s : State) (b : Bank) (p a : Byte) :
    s.decodePixel b (pack p p p a) = ⟨s.dec b p, s.dec b p, s.dec b p⟩ := by
  simp [State.decodePixel]

/-- Settles O50: a grey pixel decodes to a linear grey, whose luminance is its own value. -/
theorem greyLuminanceIsExact : Obligations.GreyLuminanceIsExact := by
  refine ⟨mac_lumaWeights_grey, fun s b p a hluma htrip => ?_⟩
  calc s.rampIndex b b .luminance (pack p p p a)
      = s.enc b (mac lumaWeights ⟨s.dec b p, s.dec b p, s.dec b p⟩) := by
        simp only [State.rampIndex, hluma, decodePixel_grey]
    _ = p := by rw [mac_lumaWeights_grey, htrip]

/-! # The register map (O11) -/

/-- A coefficient is found at the offset rule R53 computes for it. -/
theorem regAt_coef (m i j : Fin 3) :
    regAt (BitVec.ofNat 12 (0x040 + 0x24 * m.val + 4 * (3 * i.val + j.val))) = .coef m i j := by
  revert m i j
  decide

/-- A luminance weight is found at the offset rule R54 computes for it. -/
theorem regAt_luma (c : Fin 3) : regAt (BitVec.ofNat 12 (0x0AC + 4 * c.val)) = .luma c := by
  revert c
  decide

/-- The register found at a register's offset is that register (rule R56). -/
theorem regAt_offset (r : Reg) : regAt r.offset = r := by
  cases r with
  | coef m i j => exact regAt_coef m i j
  | luma c => exact regAt_luma c
  | _ => rfl

/-- Settles O11: each named offset is the `offset` of its register. -/
theorem registerMapOffsets : Obligations.RegisterMapOffsets :=
  ⟨⟨regAt_offset .id, regAt_offset .param, regAt_offset .ctrl, regAt_offset .status, regAt_offset .cmd,
      regAt_offset .src, regAt_offset .dst, regAt_offset .count, regAt_offset .progress, regAt_offset .errAddr,
      regAt_offset .tabSel, regAt_offset .tabIdx, regAt_offset .tabData⟩,
    regAt_coef, regAt_luma, regAt_offset⟩

end Sys2Proof.Machine

namespace Sys2Proof.Machine

/-! # The operands of a command under way lie in memory (O54) -/

/-- Every word that is read of an element lies inside it (rules R107 and R109). -/
theorem Elem.reads_le_size (el : Elem) : 4 * el.reads ≤ el.size := by cases el <;> decide

/-- Every word that is written of an element lies inside it (rules R108 and R109). -/
theorem Elem.writes_le_size (el : Elem) : 4 * el.writes ≤ el.size := by cases el <;> decide

/-- A word inside an element of a buffer that is aligned and ends in the address space has an address of the port (rules
R110 and R112). -/
theorem portFault_elementAddress {base : Word} {el : Elem} {n e k : Nat}
    (hal : misalignedBuffer (some el) base = false) (htop : beyondTop (some el) base n = false) (he : e < n)
    (hk : 4 * (k + 1) ≤ el.size) : portFault (elementAddress base el e k) = none := by
  have hbase : base.toNat % el.size = 0 := by
    simpa [misalignedBuffer_iff] using (Bool.eq_false_iff.mp hal)
  have hend : base.toNat + el.size * n ≤ 2 ^ 32 := by
    simpa [beyondTop_iff] using (Bool.eq_false_iff.mp htop)
  rw [portFault_eq_none_iff, elementAddress]
  cases el with
  | rgba8 => simp only [Elem.size] at *; omega
  | lin => simp only [Elem.size] at *; omega

/-- The engine reads at addresses of the port only. -/
theorem portFault_inputAddress {c : Command} {s : State} {e k : Nat} (hv : c.firstError s = none)
    (he : e < c.elements.number s) (hk : k < c.reads) : portFault (c.inputAddress s e k) = none := by
  obtain ⟨-, -, -, hal, -, htop, -, -⟩ := (firstError_eq_none_iff c s).mp hv
  unfold Command.inputAddress
  cases hin : c.input with
  | none => rfl
  | some el =>
    rw [hin] at hal htop
    have hk : k < el.reads := by simpa [Command.reads, hin] using hk
    have := el.reads_le_size
    exact portFault_elementAddress hal htop he (by omega)

/-- The engine writes at addresses of the port only. -/
theorem portFault_outputAddress {c : Command} {s : State} {e k : Nat} (hv : c.firstError s = none)
    (he : e < c.elements.number s) (hk : k < c.writes) : portFault (c.outputAddress s e k) = none := by
  obtain ⟨-, -, -, -, hal, -, htop, -⟩ := (firstError_eq_none_iff c s).mp hv
  unfold Command.outputAddress
  cases hout : c.output with
  | none => rfl
  | some el =>
    rw [hout] at hal htop
    have hk : k < el.writes := by simpa [Command.writes, hout] using hk
    have := el.writes_le_size
    exact portFault_elementAddress hal htop he (by omega)

/-! ## Which outcomes are safe -/

theorem noFault_next (s : State) : noFault (.next s) := nofun
theorem noFault_refused (r : Refusal) : noFault (.refused r) := nofun

/-- A read step faults only where the port does (log entry 9). -/
theorem noFault_readStep {c : Command} {s : State} {e : Nat} {l : List Word}
    (h : portFault (c.inputAddress s e l.length) = none) : noFault (c.readStep s e l) := by
  unfold Command.readStep
  split
  · rename_i f hf
    exact absurd (h.symm.trans ((memRead_eq_fault_iff _ _ _).mp hf)) nofun
  · exact noFault_next _
  · split
    · exact noFault_next _
    · exact noFault_next _

/-- A write step faults only where the port does (log entry 9). -/
theorem noFault_writeStep {c : Command} {s : State} {e k : Nat} {l : List Word}
    (h : portFault (c.outputAddress s e k) = none) : noFault (c.writeStep s e l k) := by
  unfold Command.writeStep
  split
  · rename_i f hf
    exact absurd (h.symm.trans ((memWrite_eq_fault_iff _ _ _ _).mp hf)) nofun
  · exact noFault_next _
  · split
    · exact noFault_next _
    · exact noFault_next _

/-- An engine step of a command under way is safe: the element exists and its buffers lie in memory (rules R112 and
R187). -/
theorem noFault_engineStep {c : Command} {s : State} {l : List Word} {k : Nat} (h : underWay c s l k) :
    noFault (c.engineStep s l k) := by
  obtain ⟨hv, hn, -⟩ := h
  unfold Command.engineStep
  rw [if_neg (by omega)]
  split
  · rename_i hr
    exact noFault_readStep (portFault_inputAddress hv hn hr)
  · split
    · rename_i hw
      exact noFault_writeStep (portFault_outputAddress hv hn hw)
    · exact noFault_next _

/-- A turn of the engine is safe: a running engine has a legal command in CMD, which is under way (rule R63). -/
theorem noFault_engineTurn {s : State} (hs : Inv s) : noFault (engineTurn s) := by
  unfold engineTurn
  split
  · exact noFault_next _
  · rename_i l k hp
    obtain ⟨-, -, -, heng⟩ := hs
    obtain ⟨i, hd, hu⟩ := (engineConsistent_run_iff hp).mp heng
    simp only [hd, exec_eq_step, step_run _ _ hp]
    exact noFault_engineStep hu

/-- Acceptance never faults (rules R180 and R181). -/
theorem noFault_startCommand {s : State} (w : Word) (hp : s.phase = .idle) : noFault (startCommand w s) := by
  unfold startCommand
  split
  · rw [exec_eq_step, step_idle _ _ hp]
    exact noFault_next _
  · exact noFault_next _

/-- A register write never faults: a write to CMD reaches the command only while the engine is idle (rule R175). -/
theorem noFault_writeReg (r : Reg) (w : Word) (s : State) : noFault (writeReg r w s) := by
  unfold writeReg
  split
  · exact noFault_next _
  · rename_i hb
    cases r with
    | cmd => exact noFault_startCommand w (by simpa [Reg.busyLocked, busy_eq_false_iff] using hb)
    | _ => exact noFault_next _

theorem noFault_hostRead (off : BitVec 12) (s : State) : noFault (hostRead off s) := by
  unfold hostRead
  split
  · exact noFault_next _
  · exact noFault_refused _

theorem noFault_hostWrite (off : BitVec 12) (w : Word) (s : State) : noFault (hostWrite off w s) := by
  unfold hostWrite
  split
  · exact noFault_writeReg _ _ _
  · exact noFault_refused _

/-- Settles O54: only a turn of the engine can fault, and a command under way does not. -/
theorem invariantRulesOutFaults : Obligations.InvariantRulesOutFaults := by
  intro s hs
  unfold step
  split
  · exact noFault_engineTurn hs
  · rename_i x rest _
    cases x with
    | engine => exact noFault_engineTurn (inv_inputs rest hs)
    | hostRead off => exact noFault_hostRead off _
    | hostWrite off w => exact noFault_hostWrite off w _
    | memRead | memWrite | reset => exact noFault_next _

/-! # The operands of the stream commands (O30) -/

/-- A stream command has as many elements as COUNT says, an input and an output buffer of its formats, and does not fill
the grid (rule R154). -/
theorem stream_operands {i : Instr} {si di : Elem} (h : streamFormats i = some (si, di)) :
    (commandOf i).input = some si ∧ (commandOf i).output = some di ∧ (commandOf i).elements = .count ∧
      (commandOf i).fillsGrid = false := by
  cases i with
  | nop | build | lutLoad | lutStore => cases h
  | decode | encode | xform | pipe | applyTri | applyNearest | applyMono => cases h; exact ⟨rfl, rfl, rfl, rfl⟩

/-- What the validation of a stream command looks at besides its buffers (rule R181). -/
theorem stream_needs {i : Instr} {si di : Elem} (h : streamFormats i = some (si, di)) :
    (commandOf i).needsGrid = samplesGrid i ∧ (commandOf i).needsImage = false := by
  cases i with
  | nop | build | lutLoad | lutStore => cases h
  | decode | encode | xform | pipe | applyTri | applyNearest | applyMono => exact ⟨rfl, rfl⟩

/-- How many words a stream command reads and writes for an element (rules R107 to R109). -/
theorem stream_accesses {i : Instr} {si di : Elem} (h : streamFormats i = some (si, di)) :
    (commandOf i).reads = si.reads ∧ (commandOf i).writes = di.writes := by
  obtain ⟨hin, hout, -⟩ := stream_operands h
  simp [Command.reads, Command.writes, hin, hout]

/-- Where a stream command reads word `k` of element `e` (rules R107 and R109). -/
theorem stream_inputAddress {i : Instr} {si di : Elem} (h : streamFormats i = some (si, di)) (s : State) (e k : Nat) :
    (commandOf i).inputAddress s e k = s.src.toNat + si.size * e + 4 * k := by
  obtain ⟨hin, -⟩ := stream_operands h
  simp [Command.inputAddress, hin, elementAddress]

/-- Where a stream command writes word `k` of element `e` (rules R108 and R109). -/
theorem stream_outputAddress {i : Instr} {si di : Elem} (h : streamFormats i = some (si, di)) (s : State) (e k : Nat) :
    (commandOf i).outputAddress s e k = s.dst.toNat + di.size * e + 4 * k := by
  obtain ⟨-, hout, -⟩ := stream_operands h
  simp [Command.outputAddress, hout, elementAddress]

/-- A stream command has as many elements as COUNT says (rule R154). -/
theorem stream_number {i : Instr} {si di : Elem} (h : streamFormats i = some (si, di)) (s : State) :
    (commandOf i).elements.number s = s.count.toNat := by
  obtain ⟨-, -, hel, -⟩ := stream_operands h
  rw [hel]
  rfl

theorem Elem.writes_pos (el : Elem) : 0 < el.writes := by cases el <;> decide

/-- Settles O30: a stream command writes every element, so no read ends one. -/
theorem streamElementReads : Obligations.StreamElementReads := by
  intro i si di s l k hi hp hn hl hg
  obtain ⟨hreads, hwrites⟩ := stream_accesses hi
  have hpos := di.writes_pos
  rw [exec_eq_step, step_run _ _ hp, ← stream_inputAddress hi]
  exact engineStep_read (by rwa [stream_number hi]) (by omega) (by omega) (by rwa [stream_inputAddress hi])

/-! # A whole RGBA8 stream run (O57) -/

/-! ## Runs -/

/-- A run followed by a run. -/
theorem run_append {a b : Nat} {s t : State} (h : Sys2Proof.core.run a s = .next t) :
    Sys2Proof.core.run (a + b) s = Sys2Proof.core.run b t := by
  induction a generalizing s with
  | zero => cases h; rw [Nat.zero_add]
  | succ a ih =>
    rw [Nat.succ_add]
    simp only [Host.Core.run] at h ⊢
    split at h
    · exact ih h
    · cases h
    · cases h

/-- A run of one step. -/
theorem run_one {s t : State} (h : step s = .next t) : Sys2Proof.core.run 1 s = .next t := by
  have hcore : Sys2Proof.core.step s = .next t := h
  simp [Host.Core.run, hcore]

/-- With no input waiting, the step of a running engine is the next step of the command in CMD (rule R170). -/
theorem step_engine {i : Instr} {s : State} {l : List Word} {k : Nat} (hin : s.inputs = []) (hp : s.phase = .run l k)
    (hd : decode s.cmd = some i) : step s = exec i s := by
  simp only [step, hin, engineTurn, hp, hd]

/-- The host's write of a well-formed command to CMD of an idle engine is its acceptance (rule R180). -/
theorem step_cmdWrite {i : Instr} {s : State} {rest : List Input} (hwf : i.wf = true) (hp : s.phase = .idle)
    (hin : s.inputs = .hostWrite 0x010#12 (encode i) :: rest) :
    step s = .next ((commandOf i).begin { s with inputs := rest }) := by
  have hoff : wordOffset 0x010#12 = true := by decide
  have hreg : regAt 0x010#12 = .cmd := by decide
  have hidle : ({ s with inputs := rest } : State).phase = .idle := hp
  simp only [step, hin, takeInput, hostWrite, hoff, hreg, if_true, writeReg, busy_idle _ hidle, Bool.false_and,
    Bool.false_eq_true, if_false, startCommand, decode_encode_of_wf hwf, exec_eq_step, step_idle _ _ hidle]

/-! ## Acceptance -/

/-- A stream command with good buffers passes validation (rules R110 to R113 and R181). -/
theorem firstError_stream {i : Instr} {si di : Elem} {s : State} (hi : streamFormats i = some (si, di))
    (hwf : i.wf = true) (hgrid : samplesGrid i = true → s.gvalid = true)
    (hb : buffersGood si.size di.size s.src.toNat s.dst.toNat s.count.toNat) : (commandOf i).firstError s = none := by
  obtain ⟨hin, hout, hel, -⟩ := stream_operands hi
  obtain ⟨hneeds, himage⟩ := stream_needs hi
  have ⟨hsrc, hdst, hsrcEnd, hdstEnd, _⟩ := hb
  rw [firstError_eq_none_iff, hin, hout, hel, hneeds, himage]
  refine ⟨by simpa using hwf, hgrid, nofun, ?_, ?_, ?_, ?_, ?_⟩
  · simpa [misalignedBuffer] using hsrc
  · simpa [misalignedBuffer] using hdst
  · exact decide_eq_false (Nat.not_lt.mpr hsrcEnd)
  · exact decide_eq_false (Nat.not_lt.mpr hdstEnd)
  · exact Bool.eq_false_iff.mpr fun h => (badOverlap_iff _ _ _ _ _ hsrc hdst hsrcEnd hdstEnd).mp h hb

/-- The acceptance of a valid stream command starts it, or ends it at once when COUNT = 0 (rules R180 and R182). -/
theorem begin_stream {i : Instr} {si di : Elem} {s : State} (hi : streamFormats i = some (si, di))
    (hwf : i.wf = true) (hgrid : samplesGrid i = true → s.gvalid = true)
    (hb : buffersGood si.size di.size s.src.toNat s.dst.toNat s.count.toNat) :
    (commandOf i).begin s = if s.count.toNat = 0 then doneAtOnce s (encode i) else running s (encode i) := by
  obtain ⟨-, -, hel, hfill⟩ := stream_operands hi
  have hv : (commandOf i).firstError (s.accept (encode i)) = none := firstError_stream hi hwf hgrid hb
  rcases begin_cases (commandOf i) s with ⟨e, a, herr, -⟩ | ⟨-, heq⟩
  · rw [commandOf_word, hv] at herr
    cases herr
  · rw [heq, commandOf_word, start_accept_eq, hel, hfill]
    simp [Elements.number, running]

/-! ## Elements -/

/-- The state of a stream run of command word `w` from `s` when `e` elements are done and memory is `m`: the engine
stands at the beginning of the next element, or has completed (rules R186 and R187). -/
def streamAt (s : State) (w : Word) (e : Nat) (m : Memory) : State :=
  { s with
    cmd := w
    done := decide (s.count.toNat ≤ e)
    err := false
    errCode := 0#4
    errAddr := 0#32
    progress := BitVec.ofNat 32 e
    phase := if s.count.toNat ≤ e then .idle else .run [] 0
    mem := m
    inputs := [] }

/-- The state inside that element, when the pixel `v` has been read for it (rule R186). -/
def streamLatched (s : State) (w : Word) (e : Nat) (m : Memory) (v : Word) : State :=
  { streamAt s w e m with phase := .run [v] 0 }

/-- The stream run begins with what acceptance leaves. -/
theorem streamAt_zero (s : State) (w : Word) :
    (if s.count.toNat = 0 then doneAtOnce { s with inputs := [] } w else running { s with inputs := [] } w) =
      streamAt s w 0 s.mem := by
  unfold streamAt
  split
  · rename_i h; simp [h, doneAtOnce]
  · rename_i h; simp [h, running]

/-- The stream run ends with the command's completion (rule R187). -/
theorem streamAt_count (s : State) (w : Word) (m : Memory) :
    streamAt s w s.count.toNat m = { doneAtOnce s w with inputs := [], progress := s.count, mem := m } := by
  simp [streamAt, doneAtOnce]

/-- PROGRESS of an element of the run. -/
theorem streamAt_progress {s : State} {e : Nat} (w : Word) (m : Memory) (he : e < s.count.toNat) :
    (streamAt s w e m).progress.toNat = e := by
  have := s.count.isLt
  simp only [streamAt, BitVec.toNat_ofNat]
  omega

theorem streamLatched_progress {s : State} {e : Nat} (w : Word) (m : Memory) (v : Word) (he : e < s.count.toNat) :
    (streamLatched s w e m v).progress.toNat = e := streamAt_progress w m he

/-- The end of an element is the beginning of the next one, or the completion (rules R186 and R187). -/
theorem elementDone_streamLatched {s : State} {e : Nat} (w : Word) (m : Memory) (v : Word) (he : e < s.count.toNat) :
    elementDone (streamLatched s w e m v) s.count.toNat false = streamAt s w (e + 1) m := by
  have hnext : BitVec.ofNat 32 e + 1#32 = BitVec.ofNat 32 (e + 1) := (BitVec.ofNat_add e 1).symm
  unfold elementDone
  rw [streamLatched_progress w m v he]
  split
  · rename_i hlt
    simp [streamLatched, streamAt, hnext, Nat.not_le.mpr hlt, Nat.not_le.mpr he]
  · rename_i hlast
    simp [streamLatched, streamAt, hnext, Nat.not_lt.mp hlast]

/-- The pixel function of a command is what it writes for the one word it reads (rules R214, R256, R265 and R270). -/
theorem outWords_of_pixelFunction {i : Instr} {s : State} {f : Word → Word} (h : pixelFunction s i = some f)
    (e : Nat) (v : Word) : (commandOf i).outWords s e [v] = [f v] := by
  cases i with
  | nop | decode | encode | xform | build | lutLoad | lutStore => cases h
  | pipe | applyTri | applyNearest | applyMono => cases h; rfl

/-- The commands with a pixel function are the stream commands from RGBA8 to RGBA8. -/
theorem streamFormats_of_pixelFunction {i : Instr} {s : State} {f : Word → Word} (h : pixelFunction s i = some f) :
    streamFormats i = some (.rgba8, .rgba8) := by
  cases i with
  | nop | decode | encode | xform | build | lutLoad | lutStore => cases h
  | pipe | applyTri | applyNearest | applyMono => rfl

/-- The pixel function does not depend on how far a run has come: no element changes a table, a matrix or the grid. -/
theorem pixelFunction_streamLatched (s : State) (w : Word) (e : Nat) (m : Memory) (v : Word) (i : Instr) :
    pixelFunction (streamLatched s w e m v) i = pixelFunction s i := by
  cases i <;> rfl

/-- The first step of an element reads its pixel (rules R104 and R114). -/
theorem step_streamAt {i : Instr} {s : State} {e : Nat} {m : Memory} (hi : streamFormats i = some (.rgba8, .rgba8))
    (hwf : i.wf = true) (he : e < s.count.toNat) (hport : portGood s (s.src.toNat + 4 * e)) :
    step (streamAt s (encode i) e m) = .next (streamLatched s (encode i) e m (m.word (s.src.toNat + 4 * e))) := by
  have hphase : (streamAt s (encode i) e m).phase = .run [] 0 := if_neg (Nat.not_le.mpr he)
  have hread := streamElementReads i _ _ (streamAt s (encode i) e m) [] 0 hi hphase
  rw [streamAt_progress _ _ he] at hread
  rw [step_engine rfl hphase (decode_encode_of_wf hwf)]
  exact hread he Nat.one_pos hport

/-- The second step of an element writes the pixel function of the pixel read and ends the element (rules R105 and
R186). -/
theorem step_streamLatched {i : Instr} {f : Word → Word} {s : State} {e : Nat} {m : Memory} (v : Word)
    (hf : pixelFunction s i = some f) (hwf : i.wf = true) (he : e < s.count.toNat)
    (hport : portGood s (s.dst.toNat + 4 * e)) :
    ∃ m', step (streamLatched s (encode i) e m v) = .next (streamAt s (encode i) (e + 1) m') ∧
      m'.word (s.dst.toNat + 4 * e) = f v ∧
      ∀ b, b < s.dst.toNat + 4 * e ∨ s.dst.toNat + 4 * e + 4 ≤ b → m'.byte b = m.byte b := by
  have hi := streamFormats_of_pixelFunction hf
  obtain ⟨-, -, -, hfill⟩ := stream_operands hi
  obtain ⟨hreads, hwrites⟩ := stream_accesses hi
  have hprog := streamLatched_progress (encode i) m v he
  have hwords : (commandOf i).outWords (streamLatched s (encode i) e m v) e [v] = [f v] :=
    outWords_of_pixelFunction ((pixelFunction_streamLatched s _ e m v i).trans hf) _ _
  have hwrite := engineStep_write_last (c := commandOf i) (s := streamLatched s (encode i) e m v) (l := [v]) (k := 0)
    (by rwa [hprog, stream_number hi]) hreads.le hwrites.symm hfill
  rw [hprog, stream_outputAddress hi, hwords, stream_number hi] at hwrite
  obtain ⟨t, ⟨ht, hword, hbytes⟩, hstep⟩ := hwrite hport
  refine ⟨t.mem, ?_, hword, hbytes⟩
  have hend : elementDone t s.count.toNat false = streamAt s (encode i) (e + 1) t.mem := by
    conv_lhs => rw [ht]
    exact elementDone_streamLatched _ _ v he
  rw [step_engine rfl rfl (decode_encode_of_wf hwf), exec_eq_step, step_run _ _ rfl, hstep]
  exact congrArg _ hend

/-! ## Memory along the run -/

/-- What the first `e` elements have made of memory: their output pixels are computed from the input as it stood, and no
byte outside those pixels has changed (rules R112 and R115). -/
def pixelsMapped (s : State) (f : Word → Word) (e : Nat) (m : Memory) : Prop :=
  (∀ j, j < e → m.word (s.dst.toNat + 4 * j) = f (s.mem.word (s.src.toNat + 4 * j))) ∧
    ∀ b, b < s.dst.toNat ∨ s.dst.toNat + 4 * e ≤ b → m.byte b = s.mem.byte b

theorem pixelsMapped_zero (s : State) (f : Word → Word) : pixelsMapped s f 0 s.mem := ⟨nofun, fun _ _ => rfl⟩

/-- A word whose four bytes agree in two memories reads the same in both. -/
theorem word_congr {m m' : Memory} {a : Nat} (h : ∀ b, a ≤ b → b < a + 4 → m'.byte b = m.byte b) :
    m'.word a = m.word a := by
  unfold Memory.word
  rw [h a (by omega) (by omega), h (a + 1) (by omega) (by omega), h (a + 2) (by omega) (by omega),
    h (a + 3) (by omega) (by omega)]

/-- The input pixel of the next element is still as it stood, whether the buffers are disjoint or in place (rules R113
and R115). -/
theorem input_of_pixelsMapped {s : State} {f : Word → Word} {e : Nat} {m : Memory}
    (hb : buffersGood 4 4 s.src.toNat s.dst.toNat s.count.toNat) (he : e < s.count.toNat) (hm : pixelsMapped s f e m) :
    m.word (s.src.toNat + 4 * e) = s.mem.word (s.src.toNat + 4 * e) := by
  obtain ⟨-, hbytes⟩ := hm
  obtain ⟨-, -, -, -, hoverlap⟩ := hb
  exact word_congr fun b hlo hhi => hbytes b (by omega)

/-- One more element. -/
theorem pixelsMapped_succ {s : State} {f : Word → Word} {e : Nat} {m m' : Memory} (hm : pixelsMapped s f e m)
    (hword : m'.word (s.dst.toNat + 4 * e) = f (s.mem.word (s.src.toNat + 4 * e)))
    (hbytes : ∀ b, b < s.dst.toNat + 4 * e ∨ s.dst.toNat + 4 * e + 4 ≤ b → m'.byte b = m.byte b) :
    pixelsMapped s f (e + 1) m' := by
  obtain ⟨hdone, hrest⟩ := hm
  refine ⟨fun j hj => ?_, fun b hb => ?_⟩
  · rcases Nat.lt_succ_iff_lt_or_eq.mp hj with hlt | rfl
    · rw [word_congr fun b hlo hhi => hbytes b (by omega)]
      exact hdone j hlt
    · exact hword
  · rw [hbytes b (by omega)]
    exact hrest b (by omega)

/-! ## The run -/

/-- Two steps an element: after the first `e` elements the engine stands at the next one, and they are mapped. -/
theorem run_elements {i : Instr} {f : Word → Word} {s : State} (hf : pixelFunction s i = some f) (hwf : i.wf = true)
    (hb : buffersGood 4 4 s.src.toNat s.dst.toNat s.count.toNat)
    (hbus : ∀ e, e < s.count.toNat → s.busOk (s.src.toNat + 4 * e) = true ∧ s.busOk (s.dst.toNat + 4 * e) = true)
    {e : Nat} (he : e ≤ s.count.toNat) :
    ∃ m, Sys2Proof.core.run (2 * e) (streamAt s (encode i) 0 s.mem) = .next (streamAt s (encode i) e m) ∧
      pixelsMapped s f e m := by
  induction e with
  | zero => exact ⟨s.mem, rfl, pixelsMapped_zero s f⟩
  | succ e ih =>
    obtain ⟨m, hrun, hm⟩ := ih (by omega)
    have ⟨hsrc, hdst, hsrcEnd, hdstEnd, _⟩ := hb
    obtain ⟨hbusSrc, hbusDst⟩ := hbus e he
    have hread := step_streamAt (m := m) (streamFormats_of_pixelFunction hf) hwf he ⟨by omega, by omega, hbusSrc⟩
    obtain ⟨m', hwrite, hword, hbytes⟩ :=
      step_streamLatched (m := m) (m.word (s.src.toNat + 4 * e)) hf hwf he ⟨by omega, by omega, hbusDst⟩
    rw [input_of_pixelsMapped hb he hm] at hword
    refine ⟨m', ?_, pixelsMapped_succ hm hword hbytes⟩
    calc Sys2Proof.core.run (2 * e + (1 + 1)) (streamAt s (encode i) 0 s.mem)
        = Sys2Proof.core.run (1 + 1) (streamAt s (encode i) e m) := run_append hrun
      _ = Sys2Proof.core.run 1 (streamLatched s (encode i) e m (m.word (s.src.toNat + 4 * e))) :=
        run_append (run_one hread)
      _ = .next (streamAt s (encode i) (e + 1) m') := run_one hwrite

/-- Settles O57: acceptance, then the run of all elements. -/
theorem streamRunMapsEveryPixel : Obligations.StreamRunMapsEveryPixel := by
  intro i f s hf hwf hp hin hgrid hb hbus
  have hi := streamFormats_of_pixelFunction hf
  have haccept : step s = .next (streamAt s (encode i) 0 s.mem) := by
    rw [step_cmdWrite hwf hp hin, begin_stream (s := { s with inputs := [] }) hi hwf hgrid hb]
    exact congrArg _ (streamAt_zero s (encode i))
  obtain ⟨m, hrun, hpixels, hbytes⟩ := run_elements hf hwf hb hbus le_rfl
  refine ⟨_, (run_append (run_one haccept)).trans hrun, hpixels, hbytes, ?_⟩
  exact streamAt_count s (encode i) m

/-! # What a step refuses (O55) -/

theorem startCommand_ne_refused (w : Word) (s : State) (r : Refusal) : startCommand w s ≠ .refused r := by
  unfold startCommand
  split
  · exact exec_ne_refused _ _ _
  · nofun

theorem engineTurn_ne_refused (s : State) (r : Refusal) : engineTurn s ≠ .refused r := by
  unfold engineTurn
  split
  · nofun
  · split
    · exact exec_ne_refused _ _ _
    · nofun

theorem writeReg_ne_refused (reg : Reg) (w : Word) (s : State) (r : Refusal) : writeReg reg w s ≠ .refused r := by
  unfold writeReg
  split
  · nofun
  · cases reg with
    | cmd => exact startCommand_ne_refused w s r
    | _ => nofun

theorem wordOffset_eq_false_iff (off : BitVec 12) : wordOffset off = false ↔ off.toNat % 4 ≠ 0 := by
  simp [wordOffset]

/-- A host read is refused exactly at an offset that is no multiple of 4 (rule R125). -/
theorem hostRead_eq_refused_iff (off : BitVec 12) (s : State) (r : Refusal) :
    hostRead off s = .refused r ↔ off.toNat % 4 ≠ 0 ∧ r = .misalignedHostAccess off := by
  rw [← wordOffset_eq_false_iff]
  unfold hostRead
  cases wordOffset off with
  | false => simpa using eq_comm
  | true => simp

/-- A host write is refused exactly at an offset that is no multiple of 4 (rule R125). -/
theorem hostWrite_eq_refused_iff (off : BitVec 12) (w : Word) (s : State) (r : Refusal) :
    hostWrite off w s = .refused r ↔ off.toNat % 4 ≠ 0 ∧ r = .misalignedHostAccess off := by
  rw [← wordOffset_eq_false_iff]
  unfold hostWrite
  cases wordOffset off with
  | false => simpa using eq_comm
  | true => simp [writeReg_ne_refused]

/-- Settles O55: of the inputs only the two host accesses can be refused, and each is by its offset. -/
theorem onlyMisalignedHostAccessRefused : Obligations.OnlyMisalignedHostAccessRefused := by
  intro s r
  unfold step
  cases hin : s.inputs with
  | nil => simp [engineTurn_ne_refused]
  | cons x rest =>
    cases x with
    | engine => simp [takeInput, engineTurn_ne_refused]
    | hostRead off => simp [takeInput, hostRead_eq_refused_iff]
    | hostWrite off w => simp [takeInput, hostWrite_eq_refused_iff]
    | memRead | memWrite | reset => simp [takeInput]

/-! # Word accesses of other masters (O60) -/

/-- Byte `k` of the word at an address is the byte at that address plus `k`: words are little-endian (rule R102). -/
theorem byteOf_word (m : Memory) (a : Nat) {k : Nat} (hk : k < 4) : byteOf (m.word a) k = m.byte (a + k) := by
  obtain ⟨h0, h1, h2, h3⟩ := byteOf_wordOf (m.byte a) (m.byte (a + 1)) (m.byte (a + 2)) (m.byte (a + 3))
  interval_cases k
  · exact h0
  · exact h1
  · exact h2
  · exact h3

/-- Settles O60: the input's one step, and the laws of a stored word. -/
theorem otherMastersAccessMemory : Obligations.OtherMastersAccessMemory := by
  refine fun s word rest => ⟨fun w hin => ?_, fun hin => ?_, fun m a k hk => byteOf_word m a hk⟩
  · exact ⟨{ s with inputs := rest, mem := s.mem.setWord (wordAddress word) w },
      by simp only [step, hin, takeInput], rfl, word_setWord_same .., fun k hk => byte_setWord_inside _ _ _ hk,
      fun b hb => byte_setWord_outside _ _ hb⟩
  · simp only [step, hin, takeInput, wordAddress]

/-! # The map of a LUT image (O51) -/

/-- The word of pixel (k + 32 i, j) holds cell (i, j, k) (rule R126). -/
theorem imageCell_pixel {i j k : Nat} (hi : i < 32) (hk : k < 32) :
    imageCell (j * 1024 + (k + i * 32)) = i * 1024 + j * 32 + k := by
  rw [imageCell_eq]
  omega

/-- The image map is its own inverse: it exchanges the two upper base-32 digits of an image word (rule R126). -/
theorem imageCell_imageCell {m : Nat} (h : m < 32768) : imageCell (imageCell m) = m := by
  obtain ⟨i, j, k, hi, hj, hk, rfl⟩ : ∃ i j k, i < 32 ∧ j < 32 ∧ k < 32 ∧ m = j * 1024 + (k + i * 32) :=
    ⟨m / 32 % 32, m / 1024, m % 32, by omega, by omega, by omega, by omega⟩
  rw [imageCell_pixel hi hk, show i * 1024 + j * 32 + k = i * 1024 + (k + j * 32) by omega, imageCell_pixel hj hk]
  omega

/-- Settles O51: the image map is an involution of the image's words. -/
theorem imageMapIsBijection : Obligations.ImageMapIsBijection :=
  ⟨fun _ hm => imageCell_lt hm,
    fun m m' hm hm' heq => by rw [← imageCell_imageCell hm, heq, imageCell_imageCell hm'],
    fun n hn => ⟨imageCell n, imageCell_lt hn, imageCell_imageCell hn⟩,
    fun _ _ _ hi _ hk => imageCell_pixel hi hk⟩

end Sys2Proof.Machine

namespace Sys2Proof.Machine

/-! # Words and commands (O1)

A word that has the form of a row of rule R150 is the command word of its own fields, and every bit a row does not use
is 0 in it, so that it is the encoding of a command of that row. -/

/-! ## The fields of a word -/

theorem ofBool_getLsbD (w : Word) (k : Nat) : BitVec.ofBool (w.getLsbD k) = w.extractLsb' k 1 := by
  ext j hj
  obtain rfl : j = 0 := by omega
  simp

theorem bankBit_bankOf (b : Bool) : bankBit (bankOf b) = BitVec.ofBool b := by cases b <;> rfl

theorem chainBits_chField (w : Word) : chainBits (chField w) = w.extractLsb' 7 3 := by
  simp only [chainBits, chField, ofBool_getLsbD]
  repeat rw [BitVec.extractLsb'_append_extractLsb'_eq_extractLsb' (by rfl)]

theorem monoBits_msField (w : Word) : monoBits (msField w) = w.extractLsb' 11 2 := by
  have hbits : BitVec.ofBool (w.getLsbD 12) ++ BitVec.ofBool (w.getLsbD 11) = w.extractLsb' 11 2 := by
    rw [ofBool_getLsbD, ofBool_getLsbD, BitVec.extractLsb'_append_extractLsb'_eq_extractLsb' (by rfl)]
  rw [← hbits, msField]
  cases w.getLsbD 12 <;> cases w.getLsbD 11 <;> rfl

/-- A word whose reserved bits are 0 (rule R149) is the command word of its fields: rule R141's layout loses no bit. -/
theorem commandWord_fields {w : Word} (h : w.extractLsb' 13 19 = 0#19) :
    commandWord (opField w) (xField w) (dbField w) (ebField w) (chField w) (xsField w) (msField w) = w := by
  rw [commandWord, ← h, monoBits_msField, chainBits_chField, dbField, ebField, bankBit_bankOf, bankBit_bankOf, xsField,
    xField, opField, ofBool_getLsbD, ofBool_getLsbD, ofBool_getLsbD, ofBool_getLsbD]
  repeat rw [BitVec.extractLsb'_append_extractLsb'_eq_extractLsb' (by rfl)]
  exact BitVec.extractLsb'_eq_self

/-! ## The rows of rule R150 -/

theorem row_mem_rows (i : Instr) : i.row ∈ rows := by cases i <;> simp [Instr.row, rows]

/-- Every row stands in the table at the OP its match value fixes (rule R150). -/
theorem rows_getElem?_op : ∀ row ∈ rows, rows[(row.bits.extractLsb' 0 4).toNat]? = some row := by decide

/-- Every row fixes OP and the reserved bits, and a match value has no other bit than those of OP (rule R150). -/
theorem rows_fix_op : ∀ row ∈ rows, row.mask.extractLsb' 0 4 = BitVec.allOnes 4 := by decide
theorem rows_fix_reserved : ∀ row ∈ rows, row.mask.extractLsb' 13 19 = BitVec.allOnes 19 := by decide
theorem rows_bits_reserved : ∀ row ∈ rows, row.bits.extractLsb' 13 19 = 0#19 := by decide
theorem rows_bits_lt : ∀ row ∈ rows, row.bits.toNat < 2 ^ 4 := by decide

/-- In a word of a row's form the bits of the row's mask are those of its match value (rule R150). -/
theorem extractLsb'_of_hasForm {row : Row} {w : Word} (h : row.hasForm w = true) {start len : Nat}
    (hmask : row.mask.extractLsb' start len = BitVec.allOnes len) :
    w.extractLsb' start len = row.bits.extractLsb' start len := by
  have hform : w &&& row.mask = row.bits := beq_iff_eq.mp h
  rw [← hform, BitVec.extractLsb'_and, hmask, BitVec.and_allOnes]

/-- The row of a word's form is the one at its OP (rule R151 clause (2)). -/
theorem rows_getElem?_of_hasForm {row : Row} {w : Word} (hrow : row ∈ rows) (h : row.hasForm w = true) :
    rows[(w.extractLsb' 0 4).toNat]? = some row := by
  rw [extractLsb'_of_hasForm h (rows_fix_op row hrow)]
  exact rows_getElem?_op row hrow

/-- A bit above OP that the row does not use is 0 in a word of its form (rule R150). -/
theorem getLsbD_eq_false_of_hasForm {row : Row} {w : Word} (hrow : row ∈ rows) (h : row.hasForm w = true) {k : Nat}
    (hk : 4 ≤ k) (hmask : row.mask.getLsbD k = true) : w.getLsbD k = false := by
  have hform : w &&& row.mask = row.bits := beq_iff_eq.mp h
  have hlt : row.bits.toNat < 2 ^ k := (rows_bits_lt row hrow).trans_le (Nat.pow_le_pow_right (by decide) hk)
  have hzero : row.bits.getLsbD k = false := Nat.testBit_lt_two_pow hlt
  simpa [← hform, hmask] using hzero

/-- The reserved bits are 0 in a word of a row's form (rule R149). -/
theorem reserved_of_hasForm {row : Row} {w : Word} (hrow : row ∈ rows) (h : row.hasForm w = true) :
    w.extractLsb' 13 19 = 0#19 := by
  rw [extractLsb'_of_hasForm h (rows_fix_reserved row hrow), rows_bits_reserved row hrow]

/-- A word with the reserved bits 0 is the command word of any fields that are its own. -/
theorem commandWord_eq {w : Word} {op : BitVec 4} {x : Bool} {db eb : Bank} {ch : Chain} {xs : Bool} {ms : Mono}
    (hres : w.extractLsb' 13 19 = 0#19) (hop : opField w = op) (hx : xField w = x) (hdb : dbField w = db)
    (heb : ebField w = eb) (hch : chField w = ch) (hxs : xsField w = xs) (hms : msField w = ms) :
    commandWord op x db eb ch xs ms = w := by
  subst hop hx hdb heb hch hxs hms
  exact commandWord_fields hres

theorem chField_eq_none {w : Word} (h0 : w.getLsbD 7 = false) (h1 : w.getLsbD 8 = false) (h2 : w.getLsbD 9 = false) :
    chField w = Chain.none := by
  rw [chField, h0, h1, h2, Chain.none]

theorem msField_eq_red {w : Word} (h0 : w.getLsbD 11 = false) (h1 : w.getLsbD 12 = false) : msField w = .red := by
  rw [msField, h0, h1]

/-- A word of a row's form is the encoding of a command of that row. -/
theorem exists_encode_of_hasForm {row : Row} {w : Word} (hrow : row ∈ rows) (h : row.hasForm w = true) :
    ∃ i : Instr, i.row = row ∧ encode i = w := by
  have hop : opField w = row.bits.extractLsb' 0 4 := extractLsb'_of_hasForm h (rows_fix_op row hrow)
  have hres := reserved_of_hasForm hrow h
  have unused {k : Nat} (hk : 4 ≤ k) (hm : row.mask.getLsbD k = true) := getLsbD_eq_false_of_hasForm hrow h hk hm
  have x0 (hm : row.mask.getLsbD 4 = true) : xField w = false := unused (by decide) hm
  have db0 (hm : row.mask.getLsbD 5 = true) : dbField w = .scale255 := congrArg bankOf (unused (by decide) hm)
  have eb0 (hm : row.mask.getLsbD 6 = true) : ebField w = .scale255 := congrArg bankOf (unused (by decide) hm)
  have ch0 (h7 : row.mask.getLsbD 7 = true) (h8 : row.mask.getLsbD 8 = true) (h9 : row.mask.getLsbD 9 = true) :
      chField w = Chain.none := chField_eq_none (unused (by decide) h7) (unused (by decide) h8) (unused (by decide) h9)
  have xs0 (hm : row.mask.getLsbD 10 = true) : xsField w = false := unused (by decide) hm
  have ms0 (h11 : row.mask.getLsbD 11 = true) (h12 : row.mask.getLsbD 12 = true) : msField w = .red :=
    msField_eq_red (unused (by decide) h11) (unused (by decide) h12)
  simp only [rows, List.mem_cons, List.not_mem_nil, or_false] at hrow
  obtain rfl | rfl | rfl | rfl | rfl | rfl | rfl | rfl | rfl | rfl | rfl := hrow
  · exact ⟨.nop, rfl, commandWord_eq hres hop (x0 rfl) (db0 rfl) (eb0 rfl) (ch0 rfl rfl rfl) (xs0 rfl) (ms0 rfl rfl)⟩
  · exact ⟨.decode (dbField w), rfl,
      commandWord_eq hres hop (x0 rfl) rfl (eb0 rfl) (ch0 rfl rfl rfl) (xs0 rfl) (ms0 rfl rfl)⟩
  · exact ⟨.encode (ebField w), rfl,
      commandWord_eq hres hop (x0 rfl) (db0 rfl) rfl (ch0 rfl rfl rfl) (xs0 rfl) (ms0 rfl rfl)⟩
  · exact ⟨.xform (chField w) (xsField w), rfl,
      commandWord_eq hres hop (x0 rfl) (db0 rfl) (eb0 rfl) rfl rfl (ms0 rfl rfl)⟩
  · exact ⟨.pipe (dbField w) (ebField w) (chField w) (xsField w), rfl,
      commandWord_eq hres hop (x0 rfl) rfl rfl rfl rfl (ms0 rfl rfl)⟩
  · exact ⟨.build (dbField w) (ebField w) (chField w) (xsField w), rfl,
      commandWord_eq hres hop (x0 rfl) rfl rfl rfl rfl (ms0 rfl rfl)⟩
  · exact ⟨.applyTri (xField w), rfl,
      commandWord_eq hres hop rfl (db0 rfl) (eb0 rfl) (ch0 rfl rfl rfl) (xs0 rfl) (ms0 rfl rfl)⟩
  · exact ⟨.applyNearest, rfl,
      commandWord_eq hres hop (x0 rfl) (db0 rfl) (eb0 rfl) (ch0 rfl rfl rfl) (xs0 rfl) (ms0 rfl rfl)⟩
  · exact ⟨.applyMono (dbField w) (ebField w) (msField w), rfl,
      commandWord_eq hres hop (x0 rfl) rfl rfl (ch0 rfl rfl rfl) (xs0 rfl) rfl⟩
  · exact ⟨.lutLoad, rfl,
      commandWord_eq hres hop (x0 rfl) (db0 rfl) (eb0 rfl) (ch0 rfl rfl rfl) (xs0 rfl) (ms0 rfl rfl)⟩
  · exact ⟨.lutStore, rfl,
      commandWord_eq hres hop (x0 rfl) (db0 rfl) (eb0 rfl) (ch0 rfl rfl rfl) (xs0 rfl) (ms0 rfl rfl)⟩

/-! ## The decoder -/

/-- A word of no row's form is illegal (rule R151). -/
theorem decode_eq_none_of_noForm {w : Word} (h : ∀ row ∈ rows, row.hasForm w = false) : decode w = none := by
  simp only [rows, List.forall_mem_cons] at h
  simp [decode, h]

/-- The word of a command that combines XS with CH is illegal (rule R151 clause (3)). -/
theorem decode_encode_of_not_wf {i : Instr} (h : i.wf = false) : decode (encode i) = none := by
  cases i with
  | xform ch xs => obtain ⟨a, b, c⟩ := ch; revert a b c xs; decide
  | pipe db eb ch xs => obtain ⟨a, b, c⟩ := ch; cases db <;> cases eb <;> revert a b c xs <;> decide
  | build db eb ch xs => obtain ⟨a, b, c⟩ := ch; cases db <;> cases eb <;> revert a b c xs <;> decide
  | _ => cases h

/-- A word that decodes is the encoding of a command (rule R151). -/
theorem exists_encode_of_decode {w : Word} {i : Instr} (h : decode w = some i) : ∃ j : Instr, encode j = w := by
  by_contra hno
  have hform : ∀ row ∈ rows, row.hasForm w = false := fun row hrow => by
    by_contra hf
    obtain ⟨j, -, hj⟩ := exists_encode_of_hasForm hrow (Bool.eq_true_of_not_eq_false hf)
    exact hno ⟨j, hj⟩
  exact nomatch (decode_eq_none_of_noForm hform).symm.trans h

/-- Settles O1: a word that decodes is some command's encoding, and the decoder gives back exactly the well-formed
commands from theirs. -/
theorem wordsAndCommandsCorrespond : Obligations.WordsAndCommandsCorrespond := by
  refine fun w i => ⟨fun h => ?_, fun ⟨hwf, hw⟩ => hw ▸ decode_encode_of_wf hwf⟩
  obtain ⟨j, rfl⟩ := exists_encode_of_decode h
  cases hj : j.wf with
  | false => exact nomatch (decode_encode_of_not_wf hj).symm.trans h
  | true =>
    cases (decode_encode_of_wf hj).symm.trans h
    exact ⟨hj, rfl⟩

/-! # Legal words and the Illegal error (O2) -/

/-! ## Legality (rule R151) -/

/-! The fields OP, CH and XS of a command word, as rule R151 reads them. -/

theorem op_commandWord (op : BitVec 4) (x : Bool) (db eb : Bank) (ch : Chain) (xs : Bool) (ms : Mono) :
    (commandWord op x db eb ch xs ms).extractLsb' 0 4 = op :=
  BitVec.extractLsb'_append_eq_right

theorem ch_commandWord (op : BitVec 4) (x : Bool) (db eb : Bank) (ch : Chain) (xs : Bool) (ms : Mono) :
    (commandWord op x db eb ch xs ms).extractLsb' 7 3 = chainBits ch := by
  unfold commandWord
  repeat rw [BitVec.extractLsb'_append_eq_of_le (by decide)]
  exact BitVec.extractLsb'_append_eq_right

theorem xs_commandWord (op : BitVec 4) (x : Bool) (db eb : Bank) (ch : Chain) (xs : Bool) (ms : Mono) :
    (commandWord op x db eb ch xs ms).getLsbD 10 = xs := by
  unfold commandWord
  repeat rw [BitVec.getLsbD_append]
  cases xs <;> rfl

/-- CH = 0 in a word exactly when the chain is empty (rule R147). -/
theorem chainBits_eq_zero_iff (ch : Chain) : chainBits ch = 0#3 ↔ ch.isEmpty = true := by
  obtain ⟨a, b, c⟩ := ch
  revert a b c
  decide

theorem transformLegal_iff (ch : Chain) (xs : Bool) :
    transformLegal ch xs = true ↔ ¬(xs = true ∧ chainBits ch ≠ 0#3) := by
  rw [ne_eq, chainBits_eq_zero_iff]
  cases xs <;> simp [transformLegal]

/-- A command is well formed exactly when its word meets rule R151 clause (3). -/
theorem wf_iff_encode (i : Instr) :
    i.wf = true ↔ ((encode i).extractLsb' 0 4 ∈ [3#4, 4#4, 5#4] →
      ¬((encode i).getLsbD 10 = true ∧ (encode i).extractLsb' 7 3 ≠ 0#3)) := by
  cases i with
  | xform ch xs | pipe db eb ch xs | build db eb ch xs =>
    simp only [Instr.wf, encode, op_commandWord, xs_commandWord, ch_commandWord, transformLegal_iff]
    exact (imp_iff_right (by decide)).symm
  | _ => simp [Instr.wf, encode, op_commandWord]

/-- The word of every command has the form of its row (rule R150). -/
theorem hasForm_encode (i : Instr) : i.row.hasForm (encode i) = true := by
  cases i with
  | nop => exact Laws.EncodingRow.nop
  | decode db => exact Laws.EncodingRow.decode db
  | encode eb => exact Laws.EncodingRow.encode eb
  | xform ch xs => exact Laws.EncodingRow.xform ch xs
  | pipe db eb ch xs => exact Laws.EncodingRow.pipe db eb ch xs
  | build db eb ch xs => exact Laws.EncodingRow.build db eb ch xs
  | applyTri x => exact Laws.EncodingRow.applyTri x
  | applyNearest => exact Laws.EncodingRow.applyNearest
  | applyMono db eb ms => exact Laws.EncodingRow.applyMono db eb ms
  | lutLoad => exact Laws.EncodingRow.lutLoad
  | lutStore => exact Laws.EncodingRow.lutStore

/-- The legal words are those of the well-formed commands. -/
theorem decode_isSome_iff (w : Word) : (decode w).isSome = true ↔ ∃ i : Instr, i.wf = true ∧ encode i = w :=
  Option.isSome_iff_exists.trans (exists_congr fun i => wordsAndCommandsCorrespond w i)

/-- Rule R151: the words of the well-formed commands are those that its three clauses allow. -/
theorem exists_encode_iff_legal (w : Word) :
    (∃ i : Instr, i.wf = true ∧ encode i = w) ↔
      ∃ row, rows[(w.extractLsb' 0 4).toNat]? = some row ∧ w &&& row.mask = row.bits ∧
        (w.extractLsb' 0 4 ∈ [3#4, 4#4, 5#4] → ¬(w.getLsbD 10 = true ∧ w.extractLsb' 7 3 ≠ 0#3)) := by
  constructor
  · rintro ⟨i, hwf, rfl⟩
    have hform := hasForm_encode i
    exact ⟨i.row, rows_getElem?_of_hasForm (row_mem_rows i) hform, beq_iff_eq.mp hform, (wf_iff_encode i).mp hwf⟩
  · rintro ⟨row, hrow, hform, hlegal⟩
    obtain ⟨i, -, rfl⟩ := exists_encode_of_hasForm (List.mem_of_getElem? hrow) (beq_iff_eq.mpr hform)
    exact ⟨i, (wf_iff_encode i).mpr hlegal, rfl⟩

/-! ## The Illegal error (rule R301) -/

/-- The acceptance of an illegal word leaves the report of code 1 and nothing else (rules R180, R301 and R320). -/
theorem acceptIllegal_eq_rejected (s : State) (w : Word) : s.acceptIllegal w = rejected s w 1#4 0#32 := rfl

/-- The host's write of an illegal word to CMD of an idle engine is its acceptance with Illegal (rule R301). -/
theorem step_cmdWrite_illegal {s : State} {w : Word} {rest : List Input} (hp : s.phase = .idle)
    (hin : s.inputs = .hostWrite 0x010#12 w :: rest) (hd : decode w = none) :
    step s = .next (({ s with inputs := rest } : State).acceptIllegal w) := by
  have hoff : wordOffset 0x010#12 = true := by decide
  have hreg : regAt 0x010#12 = .cmd := by decide
  have hidle : ({ s with inputs := rest } : State).busy = false := busy_idle _ hp
  simp only [step, hin, takeInput, hostWrite, hoff, hreg, if_true, writeReg, hidle, Bool.false_and, Bool.false_eq_true,
    if_false, startCommand, hd]

/-- An ill-formed command fails validation at its first check (rule R181). -/
theorem begin_of_not_wf {i : Instr} (h : i.wf = false) (s : State) :
    (commandOf i).begin s = s.acceptIllegal (encode i) := by
  simp [Command.begin, Command.firstError, h, State.acceptIllegal]

/-- Settles O2: rule R151 through the commands' words, and the two ways an illegal command ends. -/
theorem legalWordsAndIllegalError : Obligations.LegalWordsAndIllegalError := by
  refine ⟨fun w => (decode_isSome_iff w).trans (exists_encode_iff_legal w), fun s w rest hp hin hd => ?_,
    fun s i hp hwf => ?_⟩
  · rw [step_cmdWrite_illegal hp hin hd, acceptIllegal_eq_rejected]
  · rw [exec_eq_step, step_idle _ _ hp, begin_of_not_wf hwf, acceptIllegal_eq_rejected]

/-! # Pseudo-commands (O4) -/

/-- The fields with both banks given. -/
def CmdFields.withBanks (f : CmdFields) (db eb : Bank) : CmdFields := { f with db := db, eb := eb }

/-- A transform option gives the same field whatever the banks are (rule R156). -/
theorem withBanks_with {o : CmdOption} (h : o.ofTransform = true) (f : CmdFields) (db eb : Bank) :
    (f.withBanks db eb).with o = (f.with o).withBanks db eb := by
  cases o with
  | m0 | m1 | m2 | xs => rfl
  | _ => cases h

theorem foldl_with_withBanks {opts : List CmdOption} (h : opts.all CmdOption.ofTransform = true) (f : CmdFields)
    (db eb : Bank) :
    opts.foldl CmdFields.with (f.withBanks db eb) = (opts.foldl CmdFields.with f).withBanks db eb := by
  induction opts generalizing f with
  | nil => rfl
  | cons o rest ih =>
    rw [List.all_cons, Bool.and_eq_true] at h
    obtain ⟨ho, hrest⟩ := h
    rw [List.foldl_cons, withBanks_with ho, ih hrest, List.foldl_cons]

/-- Two bank options before transform options give their banks and change no other field. -/
theorem fieldsOf_banks {opts : List CmdOption} (h : opts.all CmdOption.ofTransform = true) (db eb : Bank) :
    fieldsOf (.db db :: .eb eb :: opts) = (fieldsOf opts).withBanks db eb :=
  foldl_with_withBanks h {} db eb

/-- A bank option and a transform option give different fields (rule R156). -/
theorem sameField_bank_transform {o : CmdOption} (h : o.ofTransform = true) (b : Bank) :
    (CmdOption.db b).sameField o = false ∧ (CmdOption.eb b).sameField o = false := by
  cases o with
  | m0 | m1 | m2 | xs => exact ⟨rfl, rfl⟩
  | _ => cases h

/-- Two bank options before transform options repeat no field of theirs (log entry 18). -/
theorem eachFieldOnce_banks {opts : List CmdOption} (h : opts.all CmdOption.ofTransform = true) (db eb : Bank) :
    eachFieldOnce (.db db :: .eb eb :: opts) = eachFieldOnce opts := by
  rw [List.all_eq_true] at h
  have hdb : opts.any (CmdOption.db db).sameField = false :=
    List.any_eq_false.mpr fun o ho => Bool.eq_false_iff.mp (sameField_bank_transform (h o ho) db).1
  have heb : opts.any (CmdOption.eb eb).sameField = false :=
    List.any_eq_false.mpr fun o ho => Bool.eq_false_iff.mp (sameField_bank_transform (h o ho) eb).2
  simp only [eachFieldOnce, List.any_cons, hdb, heb]
  rfl

/-- A mnemonic that takes every transform option takes a list of them. -/
theorem all_takes_of_ofTransform {m : Mnemonic} (hm : ∀ o : CmdOption, o.ofTransform = true → m.takes o = true)
    {opts : List CmdOption} (h : opts.all CmdOption.ofTransform = true) : opts.all m.takes = true := by
  rw [List.all_eq_true] at h ⊢
  exact fun o ho => hm o (h o ho)

/-- A pseudo-command that stands for another mnemonic with given banks assembles to the same word as that mnemonic with
the two bank options, and is refused with it. -/
theorem assemble_std {std full : Mnemonic} {db eb : Bank}
    (hstd : ∀ o : CmdOption, o.ofTransform = true → std.takes o = true)
    (hfull : ∀ o : CmdOption, o.ofTransform = true → full.takes o = true) (hdb : full.takes (.db db) = true)
    (heb : full.takes (.eb eb) = true) (hcmd : ∀ f : CmdFields, std.command f = full.command (f.withBanks db eb))
    {opts : List CmdOption} (h : opts.all CmdOption.ofTransform = true) :
    assemble std opts = assemble full (.db db :: .eb eb :: opts) := by
  simp only [assemble, List.all_cons, hdb, heb, all_takes_of_ofTransform hstd h, all_takes_of_ofTransform hfull h,
    eachFieldOnce_banks h, fieldsOf_banks h, hcmd, Bool.true_and]

/-- `build` and `pipe` take every transform option (rule R150). -/
theorem takes_build_of_ofTransform {o : CmdOption} (h : o.ofTransform = true) : Mnemonic.build.takes o = true := by
  simp only [Mnemonic.takes, h, Bool.or_true]

theorem takes_pipe_of_ofTransform {o : CmdOption} (h : o.ofTransform = true) : Mnemonic.pipe.takes o = true := by
  simp only [Mnemonic.takes, h, Bool.or_true]

/-- Settles O4: the two `.std` forms by `assemble_std`, and the fixed lines of rule R157's table by assembling them. -/
theorem pseudoCommandsExpand : Obligations.PseudoCommandsExpand := by
  refine ⟨fun opts h => ⟨?_, ?_⟩, by decide⟩
  · exact assemble_std (std := .buildStd) (fun _ ho => ho) (fun _ => takes_build_of_ofTransform) rfl rfl
      (fun _ => rfl) h
  · exact assemble_std (std := .pipeStd) (fun _ ho => ho) (fun _ => takes_pipe_of_ofTransform) rfl rfl
      (fun _ => rfl) h

/-! # Published words (O3) -/

/-- Settles O3, by O1: eleven words are the encodings of well-formed commands, one is that of a command that combines XS
with CH, and two have no row's form (a reserved OP, a reserved bit). -/
theorem publishedWordsDecode : Obligations.PublishedWordsDecode := by
  have published {w : Word} {i : Instr} (hwf : i.wf = true) (hw : encode i = w) : decode w = some i :=
    (wordsAndCommandsCorrespond w i).mpr ⟨hwf, hw⟩
  exact ⟨published rfl rfl, published rfl rfl, published rfl rfl, published rfl rfl, published rfl rfl,
    published rfl rfl, published rfl rfl, published rfl rfl, published rfl rfl, published rfl rfl, published rfl rfl,
    decode_encode_of_not_wf (i := .xform ⟨true, false, false⟩ true) rfl, decode_eq_none_of_noForm (by decide),
    decode_eq_none_of_noForm (by decide)⟩

end Sys2Proof.Machine

namespace Sys2Proof.Machine

/-! # Host access: one step (rules R171 and R178) -/

theorem wordOffset_eq_true_iff (off : BitVec 12) : wordOffset off = true ↔ off.toNat % 4 = 0 := by
  simp [wordOffset]

/-- Every register lies at a word offset (rule R56). -/
theorem offset_mod_four (r : Reg) : r.offset.toNat % 4 = 0 := by
  cases r with
  | coef m i j => revert m i j; decide
  | luma c => revert c; decide
  | _ => rfl

/-- Only TAB_DATA lies at its offset. -/
theorem regAt_eq_tabData_iff (off : BitVec 12) : regAt off = .tabData ↔ off = 0x030#12 := by
  refine ⟨fun h => BitVec.eq_of_toNat_eq ?_, fun h => h ▸ regAt_offset .tabData⟩
  unfold regAt at h
  split at h
  case h_13 hoff => exact hoff
  case h_14 =>
    split at h
    · cases h
    · split at h <;> cases h
  all_goals cases h

/-- The reserved offsets of rule R55. -/
theorem regAt_eq_reserved {off : BitVec 12} (h : (0x034 ≤ off.toNat ∧ off.toNat ≤ 0x03C) ∨ 0x0B8 ≤ off.toNat) :
    regAt off = .reserved := by
  unfold regAt
  generalize off.toNat = n at h ⊢
  have hcoef : ¬(0x040 ≤ n ∧ n < 0x0AC) := by omega
  have hluma : ¬(0x0AC ≤ n ∧ n < 0x0B8) := by omega
  split
  case h_14 => rw [if_neg hcoef, if_neg hluma]
  all_goals omega

/-- The host's write at a word offset is the write of the register there (rule R178). -/
theorem step_hostWrite {s : State} {off : BitVec 12} {w : Word} {rest : List Input}
    (hin : s.inputs = .hostWrite off w :: rest) (hoff : off.toNat % 4 = 0) :
    step s = writeReg (regAt off) w { s with inputs := rest } := by
  simp only [step, hin, takeInput, hostWrite, (wordOffset_eq_true_iff off).mpr hoff, if_true]

/-- The host's write of a register at its own offset (rules R56 and R178). -/
theorem step_hostWrite_offset {s : State} {r : Reg} {w : Word} {rest : List Input}
    (hin : s.inputs = .hostWrite r.offset w :: rest) : step s = writeReg r w { s with inputs := rest } := by
  rw [step_hostWrite hin (offset_mod_four r), regAt_offset]

/-- The host's read at a word offset returns the register there; TAB_IDX advances in an idle read of TAB_DATA only
(rules R171 and R176). -/
theorem step_hostRead {s : State} {off : BitVec 12} {rest : List Input} (hin : s.inputs = .hostRead off :: rest)
    (hoff : off.toNat % 4 = 0) :
    step s = .next
      { s with
        inputs := rest
        readData := s.readReg (regAt off)
        tabIdx := if off = 0x030#12 ∧ s.phase = .idle then s.tabIdx + 1#15 else s.tabIdx } := by
  have hread : ({ s with inputs := rest } : State).readReg (regAt off) = s.readReg (regAt off) := rfl
  have hbusy : ({ s with inputs := rest } : State).busy = false ↔ s.phase = .idle := busy_eq_false_iff _
  simp only [step, hin, takeInput, hostRead, (wordOffset_eq_true_iff off).mpr hoff, if_true, hread, hbusy,
    regAt_eq_tabData_iff]
  split <;> rfl

/-! ## What a write of each register does (rule R178) -/

theorem writeReg_ctrl (w : Word) (s : State) : writeReg .ctrl w s = .next (s.writeCtrl w) := by
  simp [writeReg, Reg.busyLocked]

theorem writeReg_status (w : Word) (s : State) : writeReg .status w s = .next (s.writeStatus w) := by
  simp [writeReg, Reg.busyLocked]

/-- A write to a read-only register or a reserved offset is ignored, at any time (rule R172). -/
theorem writeReg_ignored {r : Reg} (hr : r = .id ∨ r = .param ∨ r = .progress ∨ r = .errAddr ∨ r = .reserved) (w : Word)
    (s : State) : writeReg r w s = .next s := by
  rcases hr with rfl | rfl | rfl | rfl | rfl <;> simp [writeReg, Reg.busyLocked]

section Idle

variable {s : State} (hp : s.phase = .idle) (w : Word)
include hp

theorem writeReg_cmd : writeReg .cmd w s = startCommand w s := by simp [writeReg, hp]
theorem writeReg_src : writeReg .src w s = .next { s with src := w } := by simp [writeReg, hp]
theorem writeReg_dst : writeReg .dst w s = .next { s with dst := w } := by simp [writeReg, hp]
theorem writeReg_count : writeReg .count w s = .next { s with count := w } := by simp [writeReg, hp]
theorem writeReg_tabSel : writeReg .tabSel w s = .next { s with tabSel := w.setWidth 3 } := by simp [writeReg, hp]
theorem writeReg_tabIdx : writeReg .tabIdx w s = .next { s with tabIdx := w.setWidth 15 } := by simp [writeReg, hp]
theorem writeReg_tabData : writeReg .tabData w s = .next (s.writeTabData w) := by simp [writeReg, hp]
theorem writeReg_coef (m i j : Fin 3) : writeReg (.coef m i j) w s = .next (s.withCoef m i j w) := by
  simp [writeReg, hp]
theorem writeReg_luma (c : Fin 3) :
    writeReg (.luma c) w s = .next { s with luma := Lin.withChannel s.luma c w } := by simp [writeReg, hp]

end Idle

/-- Settles O12: those offsets hold a register that no write changes, and the reserved ones read 0. -/
theorem reservedAndReadOnlyOffsets : Obligations.ReservedAndReadOnlyOffsets := by
  refine fun s rest off hoff => ⟨fun hres => ⟨fun hin => ?_, fun w hin => ?_⟩, fun hro w hin => ?_⟩
  · have hne : off ≠ 0x030#12 := by rintro rfl; revert hres; decide
    rw [step_hostRead hin hoff, regAt_eq_reserved hres, if_neg fun h => hne h.1]
    rfl
  · rw [step_hostWrite hin hoff, regAt_eq_reserved hres]
    exact writeReg_ignored (by simp) w _
  · rw [step_hostWrite hin hoff]
    refine writeReg_ignored ?_ w _
    rcases hro with rfl | rfl | rfl | rfl
    · exact .inl (regAt_offset .id)
    · exact .inr (.inl (regAt_offset .param))
    · exact .inr (.inr (.inl (regAt_offset .progress)))
    · exact .inr (.inr (.inr (.inl (regAt_offset .errAddr))))

/-- Settles O14: a CTRL write is never locked, and only GVALID looks at the phase. -/
theorem ctrlWriteSetsEnables : Obligations.CtrlWriteSetsEnables := by
  intro s w rest hin
  rw [step_hostWrite_offset (r := .ctrl) hin, writeReg_ctrl, State.writeCtrl]
  cases hp : s.phase with
  | idle => simp [busy_idle]
  | run l k => simp [busy_run _ l k]

/-- Settles O15: a STATUS write is never locked, and each bit of it stands alone. -/
theorem statusWriteClears : Obligations.StatusWriteClears := by
  intro s w rest hin
  have clears (old bit : Bool) : (old && !bit) = if bit then false else old := by cases bit <;> simp
  rw [step_hostWrite_offset (r := .status) hin, writeReg_status, State.writeStatus]
  simp only [clears]

/-! # The step of the decoded command (O5) -/

/-- The engine's turn named by the queue is the turn it takes with no input waiting (log entry 2). -/
theorem step_engineInput {i : Instr} {s : State} {l : List Word} {k : Nat} {rest : List Input}
    (hin : s.inputs = .engine :: rest) (hp : s.phase = .run l k) (hd : decode s.cmd = some i) :
    step s = exec i { s with inputs := rest } := by
  simp only [step, hin, takeInput, engineTurn, hp, hd]

/-- Settles O5: the write of a legal word to CMD, and the two forms of the engine's turn. -/
theorem stepRunsDecodedCommand : Obligations.StepRunsDecodedCommand := by
  refine fun s i => ⟨fun w rest hp hin hd => ?_, fun l k hp hd => ⟨fun hin => ?_, fun rest hin => ?_⟩⟩
  · have hidle : ({ s with inputs := rest } : State).phase = .idle := hp
    rw [step_hostWrite_offset (r := .cmd) hin, writeReg_cmd hidle]
    simp only [startCommand, hd]
  · exact step_engine hin hp hd
  · exact step_engineInput hin hp hd

/-! # What the registers read (O13) -/

/-- Matrix Mm, row i and channel j as entries of a vector (rules R17 and R53). -/
theorem mat_eq_entry (s : State) (m : Fin 3) : s.mat m = ![s.m0, s.m1, s.m2] m := by fin_cases m <;> rfl
theorem row_eq_entry (a : Mat) (i : Fin 3) : Mat.row a i = ![a.r0, a.r1, a.r2] i := by fin_cases i <;> rfl
theorem channel_eq_entry (x : Lin) (j : Fin 3) : Lin.channel x j = ![x.c0, x.c1, x.c2] j := by fin_cases j <;> rfl

/-- Row i of matrix Mm as an entry of the table of all rows (rule R53). -/
theorem row_mat_eq_entry (s : State) (m i : Fin 3) :
    Mat.row (s.mat m) i =
      ![![s.m0.r0, s.m0.r1, s.m0.r2], ![s.m1.r0, s.m1.r1, s.m1.r2], ![s.m2.r0, s.m2.r1, s.m2.r2]] m i := by
  rw [row_eq_entry, mat_eq_entry]
  fin_cases m <;> rfl

/-- The bits of CTRL (rules R34 to R37). -/
theorem getLsbD_ctrlWord (s : State) (n : Nat) :
    s.ctrlWord.getLsbD n = if n = 0 then s.ieDone else if n = 1 then s.ieErr else if n = 2 then s.gvalid else false := by
  simp only [State.ctrlWord, BitVec.getLsbD_append]
  match n with
  | 0 | 1 | 2 => simp
  | n + 3 => simp

/-- The bits of STATUS (rules R38 to R43). -/
theorem getLsbD_statusWord (s : State) (n : Nat) :
    s.statusWord.getLsbD n =
      if n = 0 then s.busy else if n = 1 then s.done else if n = 2 then s.err else if n = 3 then s.ovr
      else if n < 8 then s.errCode.getLsbD (n - 4) else false := by
  simp only [State.statusWord, BitVec.getLsbD_append]
  match n with
  | 0 | 1 | 2 | 3 => simp
  | n + 4 =>
    have hcode : n + 4 < 8 ↔ n < 4 := by omega
    simp [hcode]

theorem busy_eq_decide (s : State) : s.busy = decide (s.phase ≠ .idle) := by
  cases hp : s.phase with
  | idle => simp [busy_idle, hp]
  | run l k => simp [busy_run _ l k, hp]

/-- Settles O13: the host's read, and each register by its fields. -/
theorem hostReadReturnsRegister : Obligations.HostReadReturnsRegister := by
  refine ⟨fun s off rest hin hoff => step_hostRead hin hoff, fun s => ⟨rfl, rfl, fun n _ => getLsbD_ctrlWord s n,
    fun n _ => ?_, rfl, rfl, rfl, rfl, rfl, rfl, ?_, ?_, fun m i j => ?_, channel_eq_entry s.luma, rfl⟩⟩
  · rw [← busy_eq_decide]
    exact getLsbD_statusWord s n
  · exact BitVec.toNat_setWidth_of_le (by decide)
  · exact BitVec.toNat_setWidth_of_le (by decide)
  · exact (congrArg (Lin.channel · j) (row_mat_eq_entry s m i)).trans (channel_eq_entry _ j)

/-! # Idle register writes (O18) -/

/-! ## Coefficients and weights: reading after writing (rules R17, R53 and R54) -/

theorem channel_withChannel (x : Lin) (c c' : Fin 3) (w : Word) :
    Lin.channel (Lin.withChannel x c w) c' = if c' = c then w else Lin.channel x c' := by
  fin_cases c <;> fin_cases c' <;> rfl

theorem row_withCoef (a : Mat) (i j i' : Fin 3) (w : Word) :
    Mat.row (Mat.withCoef a i j w) i' = if i' = i then Lin.withChannel (Mat.row a i) j w else Mat.row a i' := by
  fin_cases i <;> fin_cases i' <;> rfl

theorem mat_withCoef (s : State) (m i j m' : Fin 3) (w : Word) :
    (s.withCoef m i j w).mat m' = if m' = m then Mat.withCoef (s.mat m) i j w else s.mat m' := by
  fin_cases m <;> fin_cases m' <;> rfl

/-- A coefficient after a write of coefficient Mm[i][j]. -/
theorem readReg_coef_withCoef (s : State) (m i j m' i' j' : Fin 3) (w : Word) :
    (s.withCoef m i j w).readReg (.coef m' i' j') =
      if m' = m ∧ i' = i ∧ j' = j then w else s.readReg (.coef m' i' j') := by
  simp only [State.readReg, mat_withCoef]
  by_cases hm : m' = m
  · by_cases hi : i' = i
    · simp [hm, hi, row_withCoef, channel_withChannel]
    · simp [hm, hi, row_withCoef]
  · simp [hm]

/-- A write of a coefficient changes the matrices alone. -/
theorem withCoef_frame (s : State) (m i j : Fin 3) (w : Word) :
    s.withCoef m i j w =
      { s with m0 := (s.withCoef m i j w).m0, m1 := (s.withCoef m i j w).m1, m2 := (s.withCoef m i j w).m2 } := by
  unfold State.withCoef
  split <;> rfl

/-- Every register but that coefficient reads as before. -/
theorem readReg_withCoef_other {r : Reg} {m i j : Fin 3} (h : r ≠ .coef m i j) (s : State) (w : Word) :
    (s.withCoef m i j w).readReg r = s.readReg r := by
  cases r with
  | coef m' i' j' =>
    rw [readReg_coef_withCoef, if_neg]
    rintro ⟨rfl, rfl, rfl⟩
    exact h rfl
  | _ => rw [withCoef_frame]; rfl

/-- A weight after a write of LUMA[c]. -/
theorem readReg_luma_withChannel (s : State) (c c' : Fin 3) (w : Word) :
    ({ s with luma := Lin.withChannel s.luma c w } : State).readReg (.luma c') =
      if c' = c then w else s.readReg (.luma c') := channel_withChannel s.luma c c' w

/-- Every register but that weight reads as before. -/
theorem readReg_luma_other {r : Reg} {c : Fin 3} (h : r ≠ .luma c) (s : State) (w : Word) :
    ({ s with luma := Lin.withChannel s.luma c w } : State).readReg r = s.readReg r := by
  cases r with
  | luma c' =>
    rw [readReg_luma_withChannel, if_neg]
    rintro rfl
    exact h rfl
  | _ => rfl

theorem readReg_src_other {r : Reg} (h : r ≠ .src) (s : State) (w : Word) :
    ({ s with src := w } : State).readReg r = s.readReg r := by
  cases r with
  | src => exact absurd rfl h
  | _ => rfl

theorem readReg_dst_other {r : Reg} (h : r ≠ .dst) (s : State) (w : Word) :
    ({ s with dst := w } : State).readReg r = s.readReg r := by
  cases r with
  | dst => exact absurd rfl h
  | _ => rfl

theorem readReg_count_other {r : Reg} (h : r ≠ .count) (s : State) (w : Word) :
    ({ s with count := w } : State).readReg r = s.readReg r := by
  cases r with
  | count => exact absurd rfl h
  | _ => rfl

/-- An idle write of a register that holds a whole word: it reads back, every other register reads as before, and memory,
the grid and the inputs stay (rules R124 and R178). -/
theorem writeReg_readsBack {s : State} (hp : s.phase = .idle) {r : Reg}
    (hr : r = .src ∨ r = .dst ∨ r = .count ∨ (∃ m i j, r = .coef m i j) ∨ ∃ c, r = .luma c) (w : Word) :
    ∃ t, writeReg r w s = .next t ∧ t.readReg r = w ∧ (∀ r', r' ≠ r → t.readReg r' = s.readReg r') ∧
      t.mem = s.mem ∧ t.grid = s.grid ∧ t.inputs = s.inputs := by
  rcases hr with rfl | rfl | rfl | ⟨m, i, j, rfl⟩ | ⟨c, rfl⟩
  · exact ⟨_, writeReg_src hp w, rfl, fun _ h => readReg_src_other h s w, rfl, rfl, rfl⟩
  · exact ⟨_, writeReg_dst hp w, rfl, fun _ h => readReg_dst_other h s w, rfl, rfl, rfl⟩
  · exact ⟨_, writeReg_count hp w, rfl, fun _ h => readReg_count_other h s w, rfl, rfl, rfl⟩
  · exact ⟨_, writeReg_coef hp w m i j, by simp [readReg_coef_withCoef], fun _ h => readReg_withCoef_other h s w,
      withCoef_mem .., withCoef_grid .., withCoef_inputs ..⟩
  · exact ⟨_, writeReg_luma hp w c, by simp [readReg_luma_withChannel], fun _ h => readReg_luma_other h s w, rfl, rfl,
      rfl⟩

/-- Settles O18: the write of each register, and what the registers read after it. -/
theorem idleWriteReadsBack : Obligations.IdleWriteReadsBack := by
  intro s r w rest hp hin
  have hidle : ({ s with inputs := rest } : State).phase = .idle := hp
  rw [step_hostWrite_offset hin]
  refine ⟨?_, ?_, ?_, ?_, ?_, ?_, ?_, fun hr => writeReg_readsBack hidle hr w⟩
  · rintro rfl
    exact writeReg_src hidle w
  · rintro rfl
    exact writeReg_dst hidle w
  · rintro rfl
    exact writeReg_count hidle w
  · rintro m i j rfl
    exact ⟨_, writeReg_coef hidle w m i j, withCoef_frame .., fun _ _ _ => readReg_coef_withCoef ..⟩
  · rintro c rfl
    exact ⟨_, writeReg_luma hidle w c, rfl, fun _ => readReg_luma_withChannel ..⟩
  · rintro rfl
    rw [writeReg_tabSel hidle, ← BitVec.setWidth_eq_extractLsb' (by decide)]
  · rintro rfl
    rw [writeReg_tabIdx hidle, ← BitVec.setWidth_eq_extractLsb' (by decide)]

/-! # The table port (O19 and O20) -/

/-- The eight values of TAB_SEL (rule R50). -/
theorem tabSel_cases (sel : BitVec 3) :
    sel = 0#3 ∨ sel = 1#3 ∨ sel = 2#3 ∨ sel = 3#3 ∨ sel = 4#3 ∨ sel = 5#3 ∨ sel = 6#3 ∨ sel = 7#3 := by
  revert sel
  decide

/-- Every value of TAB_IDX is a cell of the grid: TIW = 3 B (rules R9 and R51). -/
theorem tabIdx_lt_cells (x : BitVec 15) : x.toNat < Config.cells := x.isLt

/-- What an idle TAB_DATA read returns (rules R62 and R176). -/
theorem tabData_of_idle {s : State} (hp : s.phase = .idle) :
    s.tabData =
      if s.tabSel = 0#3 ∧ s.tabIdx.toNat < 256 then tableEntry s.dec0 s.tabIdx.toNat
      else if s.tabSel = 1#3 ∧ s.tabIdx.toNat < 256 then tableEntry s.dec1 s.tabIdx.toNat
      else if s.tabSel = 2#3 ∧ 1 ≤ s.tabIdx.toNat ∧ s.tabIdx.toNat < 256 then tableEntry s.enc0 (s.tabIdx.toNat - 1)
      else if s.tabSel = 3#3 ∧ 1 ≤ s.tabIdx.toNat ∧ s.tabIdx.toNat < 256 then tableEntry s.enc1 (s.tabIdx.toNat - 1)
      else if s.tabSel = 4#3 ∧ s.tabIdx.toNat < 256 then tableEntry s.ramp s.tabIdx.toNat
      else if s.tabSel = 5#3 then s.gridAt s.tabIdx.toNat
      else 0#32 := by
  have hcell := tabIdx_lt_cells s.tabIdx
  simp only [State.tabData, busy_idle s hp, Bool.false_eq_true, if_false]
  generalize s.tabIdx.toNat = x at *
  rcases tabSel_cases s.tabSel with h | h | h | h | h | h | h | h <;>
    simp [h, tableRange, State.tableWord, hcell]

/-- Settles O19: the host's read of TAB_DATA in each phase; after reset entry 255 of DEC[1] is rule R176's example. -/
theorem tablePortRead : Obligations.TablePortRead := by
  have idleRead {s : State} {rest : List Input} (hin : s.inputs = .hostRead 0x030#12 :: rest) (hp : s.phase = .idle) :
      step s = .next { s with inputs := rest, readData := s.tabData, tabIdx := s.tabIdx + 1#15 } := by
    rw [step_hostRead hin (by decide), if_pos ⟨rfl, hp⟩]
    rfl
  refine ⟨fun s rest hin => ⟨fun l k hp => ?_, fun hp => ?_⟩, fun mem bus rest n => ?_⟩
  · have hdata : s.tabData = 0#32 := by simp [State.tabData, busy_run s l k hp]
    rw [step_hostRead hin (by decide), if_neg (by simp [hp]), show s.readReg (regAt 0x030#12) = 0#32 from hdata]
  · rw [idleRead hin hp, tabData_of_idle hp]
  · refine (idleRead rfl rfl).trans ?_
    rw [tabData_of_idle rfl]
    have hentry : tableEntry decodeTable256 255 = 16633375#32 := by decide +kernel
    simp [State.afterReset, hentry]

/-- The selected memory after a write of entry `x`, at every entry in its range (rules R52, R62 and R177). -/
theorem tableWord_setTableWord_same {sel : BitVec 3} {x x' : Nat} (s : State) (w : Word)
    (hr : tableRange sel x = true) (hr' : tableRange sel x' = true) :
    (s.setTableWord sel x w).tableWord sel x' = if x' = x then w else s.tableWord sel x' := by
  have hthreshold {t : Vector Word 255} (hx : 1 ≤ x ∧ x < 256) (hx' : 1 ≤ x' ∧ x' < 256) :
      tableEntry (t.setIfInBounds (x - 1) w) (x' - 1) = if x' = x then w else tableEntry t (x' - 1) := by
    rw [tableEntry_setIfInBounds t _ w (by omega)]
    exact if_congr (by omega) rfl rfl
  rcases tabSel_cases sel with rfl | rfl | rfl | rfl | rfl | rfl | rfl | rfl
  · exact tableEntry_setIfInBounds s.dec0 x' w (of_decide_eq_true hr)
  · exact tableEntry_setIfInBounds s.dec1 x' w (of_decide_eq_true hr)
  · exact hthreshold (by simpa [tableRange] using hr) (by simpa [tableRange] using hr')
  · exact hthreshold (by simpa [tableRange] using hr) (by simpa [tableRange] using hr')
  · exact tableEntry_setIfInBounds s.ramp x' w (of_decide_eq_true hr)
  · split
    · rename_i hx
      exact hx ▸ gridAt_setGrid_same s x' w
    · rename_i hx
      exact gridAt_setGrid_other s w hx
  · cases hr
  · cases hr

/-! The memories that TAB_SEL does not select (rule R50). -/

section Unselected

variable {sel : BitVec 3} (s : State) (x : Nat) (w : Word)

theorem setTableWord_dec0 (h : sel ≠ 0#3) : (s.setTableWord sel x w).dec0 = s.dec0 := by
  unfold State.setTableWord
  split
  case h_1 hsel => exact absurd (BitVec.eq_of_toNat_eq hsel) h
  all_goals rfl

theorem setTableWord_dec1 (h : sel ≠ 1#3) : (s.setTableWord sel x w).dec1 = s.dec1 := by
  unfold State.setTableWord
  split
  case h_2 hsel => exact absurd (BitVec.eq_of_toNat_eq hsel) h
  all_goals rfl

theorem setTableWord_enc0 (h : sel ≠ 2#3) : (s.setTableWord sel x w).enc0 = s.enc0 := by
  unfold State.setTableWord
  split
  case h_3 hsel => exact absurd (BitVec.eq_of_toNat_eq hsel) h
  all_goals rfl

theorem setTableWord_enc1 (h : sel ≠ 3#3) : (s.setTableWord sel x w).enc1 = s.enc1 := by
  unfold State.setTableWord
  split
  case h_4 hsel => exact absurd (BitVec.eq_of_toNat_eq hsel) h
  all_goals rfl

theorem setTableWord_ramp (h : sel ≠ 4#3) : (s.setTableWord sel x w).ramp = s.ramp := by
  unfold State.setTableWord
  split
  case h_5 hsel => exact absurd (BitVec.eq_of_toNat_eq hsel) h
  all_goals rfl

theorem setTableWord_gridAt (h : sel ≠ 5#3) (n : Nat) : (s.setTableWord sel x w).gridAt n = s.gridAt n := by
  unfold State.setTableWord
  split
  case h_6 hsel => exact absurd (BitVec.eq_of_toNat_eq hsel) h
  all_goals rfl

end Unselected

/-- A memory that TAB_SEL does not select keeps its entries. -/
theorem tableWord_setTableWord_other {sel sel' : BitVec 3} (h : sel' ≠ sel) (s : State) (x x' : Nat) (w : Word) :
    (s.setTableWord sel x w).tableWord sel' x' = s.tableWord sel' x' := by
  rcases tabSel_cases sel' with rfl | rfl | rfl | rfl | rfl | rfl | rfl | rfl
  · exact congrArg (tableEntry · x') (setTableWord_dec0 s x w h.symm)
  · exact congrArg (tableEntry · x') (setTableWord_dec1 s x w h.symm)
  · exact congrArg (tableEntry · (x' - 1)) (setTableWord_enc0 s x w h.symm)
  · exact congrArg (tableEntry · (x' - 1)) (setTableWord_enc1 s x w h.symm)
  · exact congrArg (tableEntry · x') (setTableWord_ramp s x w h.symm)
  · exact setTableWord_gridAt s x w h.symm x'
  · rfl
  · rfl

/-- A write of an entry changes the six memories alone. -/
theorem setTableWord_frame (s : State) (sel : BitVec 3) (x : Nat) (w : Word) :
    s.setTableWord sel x w =
      { s with
        dec0 := (s.setTableWord sel x w).dec0
        dec1 := (s.setTableWord sel x w).dec1
        enc0 := (s.setTableWord sel x w).enc0
        enc1 := (s.setTableWord sel x w).enc1
        ramp := (s.setTableWord sel x w).ramp
        grid := (s.setTableWord sel x w).grid } := by
  unfold State.setTableWord
  split <;> rfl

/-- What an idle TAB_DATA write makes of every entry in its memory's range (rules R62 and R177). -/
theorem tableWord_writeTabData {sel : BitVec 3} {x : Nat} (s : State) (w : Word) (hr : tableRange sel x = true) :
    (s.writeTabData w).tableWord sel x =
      if sel = s.tabSel ∧ x = s.tabIdx.toNat then w else s.tableWord sel x := by
  unfold State.writeTabData
  split
  · rename_i hin
    change (s.setTableWord s.tabSel s.tabIdx.toNat w).tableWord sel x = _
    by_cases hsel : sel = s.tabSel
    · subst hsel
      simp only [tableWord_setTableWord_same s w hin hr, true_and]
    · rw [tableWord_setTableWord_other hsel, if_neg fun h => hsel h.1]
  · rename_i hout
    rw [if_neg]
    · rfl
    · rintro ⟨rfl, rfl⟩
      exact hout hr

/-- A TAB_DATA write changes TAB_IDX and the six memories alone (rule R177). -/
theorem writeTabData_frame (s : State) (w : Word) :
    s.writeTabData w =
      { s with
        tabIdx := s.tabIdx + 1#15
        dec0 := (s.writeTabData w).dec0
        dec1 := (s.writeTabData w).dec1
        enc0 := (s.writeTabData w).enc0
        enc1 := (s.writeTabData w).enc1
        ramp := (s.writeTabData w).ramp
        grid := (s.writeTabData w).grid } := by
  unfold State.writeTabData
  split
  · rw [setTableWord_frame]
    rfl
  · rfl

/-- Settles O20: an entry in range is written by `setTableWord`, one out of range is not. -/
theorem tablePortWrite : Obligations.TablePortWrite := by
  intro s w rest hp hin
  have hidle : ({ s with inputs := rest } : State).phase = .idle := hp
  refine ⟨({ s with inputs := rest } : State).writeTabData w, ?_, fun sel x hr => tableWord_writeTabData _ w hr,
    writeTabData_frame _ w⟩
  rw [step_hostWrite_offset (r := .tabData) hin, writeReg_tabData hidle]

/-! # Acceptance of good operands (O23 and O24) -/

/-- The acceptance of a command that passes validation and has elements leaves it running (rules R180 and R182). -/
theorem begin_of_valid {i : Instr} {s : State} (hv : (commandOf i).firstError (s.accept (encode i)) = none)
    (hn : (commandOf i).elements.number s ≠ 0) :
    (commandOf i).begin s = { running s (encode i) with gvalid := s.gvalid && !(commandOf i).fillsGrid } := by
  rcases begin_cases (commandOf i) s with ⟨e, a, herr, -⟩ | ⟨-, heq⟩
  · rw [commandOf_word, hv] at herr
    cases herr
  · rw [heq, commandOf_word, start_accept_eq, if_neg hn]

/-- A valid command that does not fill the grid leaves GVALID when it starts (rule R182). -/
theorem exec_of_valid {i : Instr} {s : State} (hf : (commandOf i).fillsGrid = false) (hp : s.phase = .idle)
    (hv : (commandOf i).firstError (s.accept (encode i)) = none) (hn : (commandOf i).elements.number s ≠ 0) :
    exec i s = .next (running s (encode i)) := by
  rw [exec_eq_step, step_idle _ _ hp, begin_of_valid hv hn, hf, Bool.not_false, Bool.and_true]
  rfl

/-- A valid command that fills the grid clears GVALID when it starts (rule R182). -/
theorem exec_of_valid_filling {i : Instr} {s : State} (hf : (commandOf i).fillsGrid = true) (hp : s.phase = .idle)
    (hv : (commandOf i).firstError (s.accept (encode i)) = none) (hn : (commandOf i).elements.number s ≠ 0) :
    exec i s = .next { running s (encode i) with gvalid := false } := by
  rw [exec_eq_step, step_idle _ _ hp, begin_of_valid hv hn, hf, Bool.not_true, Bool.and_false]

/-- Settles O23, by what the acceptance of a valid stream command leaves. -/
theorem streamCommandsStart : Obligations.StreamCommandsStart := by
  intro i si di s hi hwf hp hgrid hb
  rw [exec_eq_step, step_idle _ _ hp, begin_stream hi hwf hgrid hb]
  simp only [← BitVec.toNat_inj, BitVec.toNat_ofNat, Nat.zero_mod]

/-- BUILD has no operands in memory, so a well-formed one passes validation (rules R154 and R181). -/
theorem firstError_build {db eb : Bank} {ch : Chain} {xs : Bool} (h : transformLegal ch xs = true) (s : State) :
    (buildCommand db eb ch xs).firstError s = none :=
  (firstError_eq_none_iff _ _).mpr ⟨h, nofun, nofun, rfl, rfl, rfl, rfl, rfl⟩

/-- An image at an aligned base that ends in the address space is a buffer without error (rules R110, R112 and R181). -/
theorem imageBuffer_good {base : Word} (hal : base.toNat % 4 = 0) (htop : base.toNat + 131072 ≤ 2 ^ 32) :
    misalignedBuffer (some .rgba8) base = false ∧ beyondTop (some .rgba8) base 32768 = false := by
  constructor
  · simpa [misalignedBuffer, Elem.size] using hal
  · rw [Bool.eq_false_iff, ne_eq, beyondTop_iff]
    rintro ⟨_, ⟨⟩, h⟩
    exact absurd h (Nat.not_lt.mpr htop)

/-- LUT_LOAD with a good image passes validation (rule R181). -/
theorem firstError_lutLoad {s : State} (hcount : s.count = 0x00200400#32) (hal : s.src.toNat % 4 = 0)
    (htop : s.src.toNat + 131072 ≤ 2 ^ 32) : lutLoadCommand.firstError s = none := by
  obtain ⟨halign, hrange⟩ := imageBuffer_good hal htop
  exact (firstError_eq_none_iff _ _).mpr
    ⟨rfl, nofun, fun _ => hcount.trans imageDims_eq.symm, halign, rfl, hrange, rfl, badOverlap_none_right ..⟩

/-- LUT_STORE with a good image passes validation (rule R181). -/
theorem firstError_lutStore {s : State} (hcount : s.count = 0x00200400#32) (hal : s.dst.toNat % 4 = 0)
    (htop : s.dst.toNat + 131072 ≤ 2 ^ 32) : lutStoreCommand.firstError s = none := by
  obtain ⟨halign, hrange⟩ := imageBuffer_good hal htop
  exact (firstError_eq_none_iff _ _).mpr
    ⟨rfl, nofun, fun _ => hcount.trans imageDims_eq.symm, rfl, halign, rfl, hrange, badOverlap_none_left ..⟩

/-- Settles O24: each of the three passes validation and has a cell to begin with; two of them fill the grid. -/
theorem gridCommandsStart : Obligations.GridCommandsStart := by
  have hcells : Config.cells ≠ 0 := by decide
  refine fun s hp => ⟨fun db eb ch xs h => ?_, fun hcount hal htop => ?_, fun hcount hal htop => ?_⟩
  · exact exec_of_valid_filling (i := .build db eb ch xs) rfl hp (firstError_build h _) hcells
  · exact exec_of_valid_filling (i := .lutLoad) rfl hp (firstError_lutLoad hcount hal htop) hcells
  · exact exec_of_valid (i := .lutStore) rfl hp (firstError_lutStore hcount hal htop) hcells

/-! # Every command ends (O56)

The measure of a running command is the number of engine steps its elements still need; every engine step uses one up, or
ends the command. -/

/-! ## The steps of an element -/

/-- How many engine steps an element takes: one an access, and one for an element without accesses (rule R186). -/
def Command.elementSteps (c : Command) : Nat := max 1 (c.reads + c.writes)

/-- A LIN element read and a LIN element written make the most accesses, seven (rules R107 and R108, log entry 19). -/
theorem Command.elementSteps_le (c : Command) : c.elementSteps ≤ 7 := by
  have hreads : c.reads ≤ 3 := by
    unfold Command.reads
    split
    · omega
    · rename_i el _; cases el <;> decide
  have hwrites : c.writes ≤ 4 := by
    unfold Command.writes
    split
    · omega
    · rename_i el _; cases el <;> decide
  unfold Command.elementSteps
  omega

/-- The engine stands inside an element under way: its accesses are not all made (rule R114). -/
theorem accesses_lt_elementSteps {c : Command} {s : State} {l : List Word} {k : Nat} (h : underWay c s l k) :
    l.length + k < c.elementSteps := by
  obtain ⟨-, -, hlen, hwritten, hread, -⟩ := h
  unfold Command.elementSteps
  rcases Nat.eq_zero_or_pos k with rfl | hk
  · by_cases hw : c.writes = 0
    · have := fun hl => hread hl hw
      omega
    · omega
  · have := hwritten hk
    omega

/-- How many engine steps a command still needs from `k` accesses into element `e`. -/
def Command.stepsLeft (c : Command) (s : State) (e k : Nat) : Nat := (c.elements.number s - e) * c.elementSteps - k

/-- The element under way is followed by the ones after it. -/
theorem stepsLeft_eq {c : Command} {s : State} {e k : Nat} (he : e < c.elements.number s) (hk : k < c.elementSteps) :
    c.stepsLeft s e k = c.stepsLeft s (e + 1) 0 + (c.elementSteps - k) := by
  have hsucc : (c.elements.number s - (e + 1)) * c.elementSteps + c.elementSteps =
      (c.elements.number s - e) * c.elementSteps := by
    rw [← Nat.succ_mul]
    congr 1
    omega
  unfold Command.stepsLeft
  omega

/-- The steps left depend on COUNT alone. -/
theorem stepsLeft_congr {c : Command} {s t : State} (h : t.count = s.count) (e k : Nat) :
    c.stepsLeft t e k = c.stepsLeft s e k := by
  simp only [Command.stepsLeft, elements_number_congr c.elements h]

/-- No more steps are left than seven for each element. -/
theorem stepsLeft_le (c : Command) (s : State) (e k : Nat) : c.stepsLeft s e k ≤ 7 * c.elements.number s :=
  calc c.stepsLeft s e k ≤ c.elements.number s * c.elementSteps :=
        (Nat.sub_le ..).trans (Nat.mul_le_mul_right _ (Nat.sub_le ..))
    _ ≤ c.elements.number s * 7 := Nat.mul_le_mul_left _ c.elementSteps_le
    _ = 7 * c.elements.number s := Nat.mul_comm ..

/-! ## One engine step -/

/-- What a step of a command with `n` steps left comes to: the command has ended with DONE = 1, or it runs on with fewer
steps left. -/
def endsOrAdvances (c : Command) (n : Nat) (t : State) : Prop :=
  (t.phase = .idle ∧ t.done = true) ∨
    ∃ l k, t.phase = .run l k ∧ c.stepsLeft t t.progress.toNat (l.length + k) < n

/-- The end of an element leads to the beginning of the next one, or completes the command (rules R186 and R187). -/
theorem finishElement_phase (c : Command) (s : State) (e : Nat) (l : List Word) :
    (c.finishElement s e l).phase = .run [] 0 ∨
      ((c.finishElement s e l).phase = .idle ∧ (c.finishElement s e l).done = true) := by
  unfold Command.finishElement
  dsimp only
  split
  · exact .inr ⟨rfl, rfl⟩
  · exact .inl rfl

/-- The end of an element completes the command or leaves the elements after it (rules R186 and R187). -/
theorem endsOrAdvances_finishElement {c : Command} {s : State} {k : Nat} (l : List Word)
    (he : s.progress.toNat < c.elements.number s) (hk : k < c.elementSteps) :
    endsOrAdvances c (c.stepsLeft s s.progress.toNat k) (c.finishElement s s.progress.toNat l) := by
  have hprogress : (s.progress + 1#32).toNat = s.progress.toNat + 1 := by
    have := elements_number_lt c.elements s
    simp only [BitVec.toNat_add, BitVec.toNat_ofNat]
    omega
  have hcount := finishElement_count c s s.progress.toNat l
  rcases finishElement_phase c s s.progress.toNat l with hrun | hend
  · refine .inr ⟨[], 0, hrun, ?_⟩
    rw [stepsLeft_congr hcount, finishElement_progress, hprogress, stepsLeft_eq he hk]
    exact Nat.lt_add_of_pos_right (Nat.sub_pos_of_lt hk)
  · exact .inl hend

/-- One more access of an element that goes on. -/
theorem endsOrAdvances_access {c : Command} {s t : State} {k : Nat} {l' : List Word} {k' : Nat}
    (he : s.progress.toNat < c.elements.number s) (hk : k < c.elementSteps) (hphase : t.phase = .run l' k')
    (hprogress : t.progress = s.progress) (hcount : t.count = s.count) (hmore : k < l'.length + k') :
    endsOrAdvances c (c.stepsLeft s s.progress.toNat k) t := by
  refine .inr ⟨l', k', hphase, ?_⟩
  have hleft := stepsLeft_eq he hk
  rw [hprogress, stepsLeft_congr hcount]
  unfold Command.stepsLeft at *
  omega

/-- An engine step of a command under way uses up one of its steps, or ends it (rules R186, R187 and R307). -/
theorem endsOrAdvances_engineStep {c : Command} {s t : State} {l : List Word} {k : Nat} (hu : underWay c s l k)
    (h : c.engineStep s l k = .next t) :
    endsOrAdvances c (c.stepsLeft s s.progress.toNat (l.length + k)) t := by
  have hk := accesses_lt_elementSteps hu
  obtain ⟨-, he, -, hwritten, -⟩ := hu
  obtain ⟨-, ⟨hr, h⟩ | ⟨-, -, h⟩ | ⟨-, -, rfl⟩⟩ := engineStep_cases h
  · obtain ⟨-, rfl⟩ | ⟨-, ⟨-, -, rfl⟩ | ⟨-, rfl⟩⟩ := readStep_cases h
    · exact .inl ⟨rfl, rfl⟩
    · exact endsOrAdvances_finishElement _ he hk
    · have hk0 : k = 0 := by omega
      exact endsOrAdvances_access he hk rfl rfl rfl (by simp [hk0])
  · obtain ⟨-, rfl⟩ | ⟨-, ⟨-, rfl⟩ | ⟨-, rfl⟩⟩ := writeStep_cases h
    · exact .inl ⟨rfl, rfl⟩
    · exact endsOrAdvances_finishElement (s := { s with mem := _ }) l he hk
    · exact endsOrAdvances_access he hk rfl rfl rfl (by omega)
  · exact endsOrAdvances_finishElement l he hk

/-! ## The run -/

/-- With no input waiting, a running engine that meets the invariant makes an engine step: it neither faults nor is
refused (log entries 8 and 9). -/
theorem exists_engineStep {s : State} {i : Instr} {l : List Word} {k : Nat} (hs : Inv s) (hin : s.inputs = [])
    (hp : s.phase = .run l k) (hd : decode s.cmd = some i) :
    ∃ t, step s = .next t ∧ (commandOf i).engineStep s l k = .next t := by
  have hstep : step s = (commandOf i).engineStep s l k := by
    rw [step_engine hin hp hd, exec_eq_step, step_run _ _ hp]
  cases h : step s with
  | next t => exact ⟨t, rfl, hstep.symm.trans h⟩
  | fault f => exact absurd h (invariantRulesOutFaults s hs f)
  | refused r => exact absurd ((step_engine hin hp hd).symm.trans h) (exec_ne_refused i s r)

/-- A command under way with at most `n` steps left ends within `n` engine steps. -/
theorem run_ends {i : Instr} {n : Nat} {s : State} {l : List Word} {k : Nat} (hs : Inv s) (hin : s.inputs = [])
    (hp : s.phase = .run l k) (hd : decode s.cmd = some i)
    (hn : (commandOf i).stepsLeft s s.progress.toNat (l.length + k) ≤ n) :
    ∃ m t, m ≤ n ∧ Sys2Proof.core.run m s = .next t ∧ t.phase = .idle ∧ t.done = true := by
  induction n generalizing s l k with
  | zero =>
    have hu := underWay_of_inv hs hp hd
    have hk := accesses_lt_elementSteps hu
    obtain ⟨-, he, -⟩ := hu
    have := stepsLeft_eq he hk
    omega
  | succ n ih =>
    obtain ⟨t, hstep, heng⟩ := exists_engineStep hs hin hp hd
    rcases endsOrAdvances_engineStep (underWay_of_inv hs hp hd) heng with ⟨hidle, hdone⟩ | ⟨l', k', hp', hless⟩
    · exact ⟨1, t, by omega, run_one hstep, hidle, hdone⟩
    · obtain ⟨hlocked, hcmd, -⟩ := engineStep_leaves heng
      have hin' : t.inputs = [] := (congrArg State.inputs hlocked).trans hin
      obtain ⟨m, u, hm, hrun, hend⟩ :=
        ih (stepKeepsInvariant s t hs hstep) hin' hp' (hcmd ▸ hd) (by omega)
      exact ⟨1 + m, u, by omega, (run_append (run_one hstep)).trans hrun, hend⟩

/-- Settles O56: the steps a running command has left are at most seven for each element. -/
theorem everyCommandEnds : Obligations.EveryCommandEnds := by
  intro s i l k hs hin hp hd
  obtain ⟨n, t, hn, hrun, hidle, hdone⟩ := run_ends hs hin hp hd (stepsLeft_le ..)
  exact ⟨n, t, hn, hrun, hidle, hdone⟩

end Sys2Proof.Machine

namespace Sys2Proof.Machine

/-! # NOP (O22) -/

/-- The acceptance of a valid command without elements completes it at once (rules R180, R182 and R187). -/
theorem begin_of_valid_empty {i : Instr} {s : State} (hv : (commandOf i).firstError (s.accept (encode i)) = none)
    (hn : (commandOf i).elements.number s = 0) : (commandOf i).begin s = doneAtOnce s (encode i) := by
  rcases begin_cases (commandOf i) s with ⟨e, a, herr, -⟩ | ⟨-, heq⟩
  · rw [commandOf_word, hv] at herr
    cases herr
  · rw [heq, commandOf_word, start_accept_eq, if_pos hn]

/-- NOP is legal and has no buffers and no needs, so nothing of SRC, DST and COUNT is looked at (rules R154 and R181). -/
theorem firstError_nop (s : State) : nopCommand.firstError s = none :=
  (firstError_eq_none_iff _ _).mpr ⟨rfl, nofun, nofun, rfl, rfl, rfl, rfl, rfl⟩

/-- NOP's word is the word 0 (rule R150). -/
theorem encode_nop : encode .nop = 0#32 := by decide

/-- Settles O22: NOP passes validation in every state and has no element. -/
theorem nopCompletesAtOnce : Obligations.NopCompletesAtOnce := by
  intro s hp
  rw [exec_eq_step, step_idle _ _ hp, begin_of_valid_empty (i := .nop) (firstError_nop _) (nopCommand_number s),
    encode_nop]

/-! # The writes of a stream element (O31 to O34)

The commands with the same output format differ only in the pixel or the colour their record makes of the words read. -/

section StreamWrite
variable {i : Instr} {si : Elem} {s : State} {l : List Word}

/-- The write of an RGBA8 element ends it (rules R105, R109 and R186). -/
theorem exec_writePixel {w : Word} (hi : streamFormats i = some (si, .rgba8)) (hp : s.phase = .run l 0)
    (hl : l.length = si.reads) (hw : (commandOf i).outWords s s.progress.toNat l = [w])
    (hn : s.progress.toNat < s.count.toNat) (hg : portGood s (s.dst.toNat + 4 * s.progress.toNat)) :
    ∃ t, storesWord s t (s.dst.toNat + 4 * s.progress.toNat) w ∧
      exec i s = .next (elementDone t s.count.toNat false) := by
  obtain ⟨hreads, hwrites⟩ := stream_accesses hi
  obtain ⟨-, -, -, hfill⟩ := stream_operands hi
  have hwrite := engineStep_write_last (c := commandOf i) (s := s) (l := l) (k := 0)
    (by rwa [stream_number hi]) (hreads.trans hl.symm).le hwrites.symm hfill
  rw [stream_outputAddress hi, stream_number hi, hw] at hwrite
  rw [exec_eq_step, step_run _ _ hp]
  exact hwrite hg

/-- A write of a LIN element stores a channel or the pad, and the fourth one ends the element (rules R105, R108 and
R186). -/
theorem exec_writeLin {k : Nat} {y : Lin} (hi : streamFormats i = some (si, .lin)) (hp : s.phase = .run l k)
    (hk : k < 4) (hl : l.length = si.reads) (hy : (commandOf i).outWords s s.progress.toNat l = linWords y)
    (hn : s.progress.toNat < s.count.toNat) (hg : portGood s (s.dst.toNat + 16 * s.progress.toNat + 4 * k)) :
    ∃ t, storesWord s t (s.dst.toNat + 16 * s.progress.toNat + 4 * k) ((linWords y).getD k 0#32) ∧
      exec i s = .next (if k < 3 then { t with phase := .run l (k + 1) } else elementDone t s.count.toNat false) := by
  obtain ⟨hreads, hwrites⟩ := stream_accesses hi
  obtain ⟨-, -, -, hfill⟩ := stream_operands hi
  have haddr : (commandOf i).outputAddress s s.progress.toNat k = s.dst.toNat + 16 * s.progress.toNat + 4 * k :=
    stream_outputAddress hi ..
  have hn' : s.progress.toNat < (commandOf i).elements.number s := by rwa [stream_number hi]
  have hread : (commandOf i).reads ≤ l.length := (hreads.trans hl.symm).le
  replace hwrites : (commandOf i).writes = 4 := hwrites
  rw [exec_eq_step, step_run _ _ hp]
  by_cases hlast : k < 3
  · have hwrite := engineStep_write (k := k) hn' hread (by omega)
    rw [haddr, hy] at hwrite
    simpa only [hlast, if_true] using hwrite hg
  · have hwrite := engineStep_write_last (k := k) hn' hread (by omega) hfill
    rw [haddr, hy, stream_number hi] at hwrite
    simpa only [hlast, if_false] using hwrite hg

end StreamWrite

/-- An entry inside a table (rules R60 and R61). -/
theorem tableEntry_eq_getElem {n : Nat} (t : Vector Word n) {i : Nat} (h : i < n) : tableEntry t i = t[i] := by
  simp [tableEntry, h]

/-- Settles O31: DECODE writes a LIN element, which is the decoded pixel. -/
theorem decodeWritesLinearColour : Obligations.DecodeWritesLinearColour := by
  refine fun db s => ⟨fun w => ⟨rfl, rfl, rfl⟩, fun p => ?_, fun w k hp hk hn hg => ?_⟩
  · cases db with
    | scale255 | scale256 => exact tableEntry_eq_getElem _ p.isLt
  · exact exec_writeLin (i := .decode db) (y := s.decodePixel db w) rfl hp hk rfl rfl hn hg

/-- Settles O32: ENCODE writes one word an element, the encoded colour. -/
theorem encodeWritesPixel : Obligations.EncodeWritesPixel :=
  ⟨fun _ _ _ _ => rfl, fun eb _ _ _ _ hp hn hg => exec_writePixel (i := .encode eb) rfl hp rfl rfl hn hg⟩

/-- Settles O33: XFORM writes a LIN element, which is the transformed colour. -/
theorem xformWritesTransformedColour : Obligations.XformWritesTransformedColour :=
  fun ch xs _ _ _ _ _ hp hk hn hg => exec_writeLin (i := .xform ch xs) rfl hp hk rfl rfl hn hg

/-- Settles O34: PIPE writes one word an element, the encoded transform of the decoded pixel. -/
theorem pipeWritesPixel : Obligations.PipeWritesPixel :=
  fun db eb ch xs _ _ hp hn hg => exec_writePixel (i := .pipe db eb ch xs) rfl hp rfl rfl hn hg

/-! # The encode primitive (O43)

The thresholds are numbered from 1, so a count over a table is the size of a set of numbers in 1..255. -/

/-- Threshold ENC[b][k] as a signed number (rules R61 and R202). -/
def State.threshold (s : State) (b : Bank) (k : Nat) : Int := (tableEntry (s.encTable b) (k - 1)).toInt

/-- A table's entries in order, numbered from 1. -/
theorem toList_eq_map_tableEntry {n : Nat} (t : Vector Word n) :
    t.toList = (List.range' 1 n).map fun k => tableEntry t (k - 1) := by
  refine List.ext_getElem (by simp) fun j h _ => ?_
  have hj : j < n := by simpa using h
  simp [tableEntry_eq_getElem t hj]

/-- The encode primitive is the number of thresholds not above the value (rule R202). -/
theorem enc_toNat_eq_card (s : State) (b : Bank) (v : Word) :
    (s.enc b v).toNat = ((Finset.Icc 1 255).filter fun k => s.threshold b k ≤ v.toInt).card := by
  rw [enc_toNat, thresholdsNotAbove, toList_eq_map_tableEntry, List.countP_map, ← List.toFinset_range'_1_1,
    (List.nodup_range' (s := 1) (n := 255)).card_eq_countP]
  rfl

/-- For a condition that a number in 1..`n` hands down to every smaller one, the numbers that meet it are those up to
their count. -/
theorem iff_le_card_filter_of_downward {p : Nat → Prop} [DecidablePred p] {n : Nat}
    (hp : ∀ j k, 1 ≤ j → j ≤ k → k ≤ n → p k → p j) {k : Nat} (h1 : 1 ≤ k) (hn : k ≤ n) :
    p k ↔ k ≤ ((Finset.Icc 1 n).filter p).card := by
  constructor
  · intro hk
    have hsub : Finset.Icc 1 k ⊆ (Finset.Icc 1 n).filter p := by
      intro j hj
      rw [Finset.mem_Icc] at hj
      exact Finset.mem_filter.mpr ⟨Finset.mem_Icc.mpr ⟨hj.1, hj.2.trans hn⟩, hp j k hj.1 hj.2 hn hk⟩
    simpa using Finset.card_le_card hsub
  · contrapose!
    intro hk
    have hsub : (Finset.Icc 1 n).filter p ⊆ Finset.Icc 1 (k - 1) := by
      intro j hj
      obtain ⟨hj, hpj⟩ := Finset.mem_filter.mp hj
      rw [Finset.mem_Icc] at hj ⊢
      have hlt : j < k := lt_of_not_ge fun hkj => hk (hp k j h1 hkj hj.2 hpj)
      exact ⟨hj.1, by omega⟩
    have hcard := Finset.card_le_card hsub
    rw [Nat.card_Icc] at hcard
    omega

/-- On a table that does not decrease, the encode primitive is the largest number of a threshold not above the value
(rule R202). -/
theorem threshold_le_iff_le_enc {s : State} {b : Bank}
    (hmono : ∀ j k, 1 ≤ j → j ≤ k → k ≤ 255 → s.threshold b j ≤ s.threshold b k) (v : Word) {k : Nat} (h1 : 1 ≤ k)
    (h255 : k ≤ 255) : s.threshold b k ≤ v.toInt ↔ k ≤ (s.enc b v).toNat := by
  rw [enc_toNat_eq_card]
  exact iff_le_card_filter_of_downward (fun j k hj hjk hk hv => (hmono j k hj hjk hk).trans hv) h1 h255

/-- Settles O43: the two facts about the encode primitive, and rule R202's examples by evaluation. -/
theorem encodeIsLargestThreshold : Obligations.EncodeIsLargestThreshold := by
  refine ⟨fun s b v => ?_, by decide +kernel, by decide +kernel⟩
  cases b with
  | scale255 => exact ⟨enc_toNat_eq_card s .scale255 v, fun hmono k => threshold_le_iff_le_enc (b := .scale255) hmono v⟩
  | scale256 => exact ⟨enc_toNat_eq_card s .scale256 v, fun hmono k => threshold_le_iff_le_enc (b := .scale256) hmono v⟩

/-! # The gamma round trip (O44) -/

/-- The tables of a bank interleave: DEC[b][k-1] < ENC[b][k] <= DEC[b][k] for every k in 1..255 (rule R204). -/
def State.interleaves (s : State) (b : Bank) : Prop :=
  ∀ k, 1 ≤ k → k ≤ 255 →
    (tableEntry (s.decTable b) (k - 1)).toInt < s.threshold b k ∧
      s.threshold b k ≤ (tableEntry (s.decTable b) k).toInt

/-- Tables that interleave do not decrease on the decoding side (rule R204). -/
theorem decTable_mono_of_interleaves {s : State} {b : Bank} (h : s.interleaves b) {j k : Nat} (hjk : j ≤ k)
    (hk : k ≤ 255) : (tableEntry (s.decTable b) j).toInt ≤ (tableEntry (s.decTable b) k).toInt := by
  induction k, hjk using Nat.le_induction with
  | base => exact le_rfl
  | succ k hjk ih =>
    obtain ⟨hlow, hhigh⟩ := h (k + 1) (by omega) hk
    exact (ih (by omega)).trans (hlow.le.trans hhigh)

/-- Where the tables interleave, the thresholds not above a decoded code are those numbered up to the code (rule
R204). -/
theorem threshold_le_dec_iff {s : State} {b : Bank} (h : s.interleaves b) (p : Byte) {k : Nat} (h1 : 1 ≤ k)
    (h255 : k ≤ 255) : s.threshold b k ≤ (s.dec b p).toInt ↔ k ≤ p.toNat := by
  have hp : p.toNat ≤ 255 := Nat.le_of_lt_succ p.isLt
  obtain ⟨hlow, hhigh⟩ := h k h1 h255
  constructor
  · contrapose!
    intro hlt
    exact (decTable_mono_of_interleaves h (Nat.le_sub_one_of_lt hlt) (by omega)).trans_lt hlow
  · exact fun hle => hhigh.trans (decTable_mono_of_interleaves h hle hp)

/-- The encode primitive gives a decoded code back where the tables interleave (rule R204). -/
theorem enc_dec_of_interleaves {s : State} {b : Bank} (h : s.interleaves b) (p : Byte) : s.enc b (s.dec b p) = p := by
  apply BitVec.eq_of_toNat_eq
  have hp : p.toNat ≤ 255 := Nat.le_of_lt_succ p.isLt
  have hset : ((Finset.Icc 1 255).filter fun k => s.threshold b k ≤ (s.dec b p).toInt) = Finset.Icc 1 p.toNat := by
    ext k
    simp only [Finset.mem_filter, Finset.mem_Icc]
    constructor
    · rintro ⟨⟨h1, h255⟩, hk⟩
      exact ⟨h1, (threshold_le_dec_iff h p h1 h255).mp hk⟩
    · rintro ⟨h1, hk⟩
      exact ⟨⟨h1, hk.trans hp⟩, (threshold_le_dec_iff h p h1 (hk.trans hp)).mpr hk⟩
  rw [enc_toNat_eq_card, hset, Nat.card_Icc, Nat.add_sub_cancel]

/-- A check of rule R204's condition in one pass over the entries of two tables: each threshold lies between its
neighbours. -/
def entriesInterleave : List Word → List Word → Bool
  | d :: d' :: ds, e :: es => decide (d.toInt < e.toInt) && decide (e.toInt ≤ d'.toInt) && entriesInterleave (d' :: ds) es
  | _, _ => true

/-- What the check says of the entries by number. -/
theorem getElem_of_entriesInterleave {ds es : List Word} (h : entriesInterleave ds es = true) {j : Nat}
    (hd : j + 1 < ds.length) (he : j < es.length) : ds[j].toInt < es[j].toInt ∧ es[j].toInt ≤ ds[j + 1].toInt := by
  induction es generalizing ds j with
  | nil => cases he
  | cons e es ih =>
    obtain _ | ⟨d, _ | ⟨d', ds⟩⟩ := ds
    · cases hd
    · simp at hd
    · simp only [entriesInterleave, Bool.and_eq_true, decide_eq_true_eq] at h
      obtain ⟨hbetween, hrest⟩ := h
      cases j with
      | zero => exact hbetween
      | succ j => exact ih hrest (Nat.lt_of_succ_lt_succ hd) (Nat.lt_of_succ_lt_succ he)

/-- Tables interleave when their entries pass the check. -/
theorem interleaves_of_entriesInterleave {s : State} {b : Bank}
    (h : entriesInterleave (s.decTable b).toList (s.encTable b).toList = true) : s.interleaves b := by
  intro k h1 h255
  obtain ⟨j, rfl⟩ := Nat.exists_eq_add_of_le' h1
  have hbetween := getElem_of_entriesInterleave h (j := j) (by simp; omega) (by simp; omega)
  simp only [Vector.getElem_toList] at hbetween
  rwa [State.threshold, Nat.add_sub_cancel, tableEntry_eq_getElem _ (show j < 256 by omega),
    tableEntry_eq_getElem _ (show j < 255 by omega), tableEntry_eq_getElem _ (show j + 1 < 256 by omega)]

/-- After a reset the tables of both banks interleave, whatever stands beside the block: the contents of rules R347 to R350
pass the check, by evaluation. -/
theorem interleaves_afterReset (mem : Memory) (bus : List Word) (ins : List Input) (n : Nat) (b : Bank) :
    (State.afterReset mem bus ins n).interleaves b := by
  apply interleaves_of_entriesInterleave
  cases b with
  | scale255 => exact (by decide +kernel : entriesInterleave decodeTable255.toList encodeTable255.toList = true)
  | scale256 => exact (by decide +kernel : entriesInterleave decodeTable256.toList encodeTable256.toList = true)

/-- Settles O44: interleaving gives the round trip, and the reset contents interleave. -/
theorem gammaRoundTrip : Obligations.GammaRoundTrip :=
  ⟨fun _ _ h p => enc_dec_of_interleaves h p, fun mem bus ins n b =>
    ⟨enc_dec_of_interleaves (interleaves_afterReset mem bus ins n b), interleaves_afterReset mem bus ins n b⟩⟩

/-! # The multiply-accumulate (O45) -/

/-- The signed value of a saturated number is the number clamped to the signed 32-bit range (rule R16). -/
theorem toInt_sat32 (v : Int) : (sat32 v).toInt = min (max v (-2 ^ 31)) (2 ^ 31 - 1) := by
  rw [sat32, BitVec.toInt_ofInt]
  exact Int.bmod_eq_of_le (by omega) (by omega)

/-- The floor shift is the quotient below its argument (00_scope.md rule R15). -/
theorem floorShift_bounds (a : Int) (n : Nat) :
    2 ^ n * floorShift a n ≤ a ∧ a < 2 ^ n * (floorShift a n + 1) := by
  have hpos : (0 : Int) < 2 ^ n := by positivity
  exact ⟨Int.mul_ediv_self_le hpos.ne', by simpa [floorShift, mul_add] using Int.lt_mul_ediv_self_add hpos⟩

/-- The multiply-accumulate rounds the exact sum half up, and gives the nearer bound where the rounded sum is outside the
signed 32-bit range (rule R208). -/
theorem mac_rounds_or_saturates (r x : Lin) :
    (2 ^ 24 * (mac r x).toInt ≤ dot r x + 2 ^ 23 ∧ dot r x + 2 ^ 23 < 2 ^ 24 * ((mac r x).toInt + 1)) ∨
      ((mac r x).toInt = 2 ^ 31 - 1 ∧ 2 ^ 24 * (2 ^ 31) ≤ dot r x + 2 ^ 23) ∨
        ((mac r x).toInt = -2 ^ 31 ∧ dot r x + 2 ^ 23 < 2 ^ 24 * (-2 ^ 31)) := by
  have hmac : (mac r x).toInt = min (max (floorShift (dot r x + 2 ^ 23) 24) (-2 ^ 31)) (2 ^ 31 - 1) := toInt_sat32 _
  obtain ⟨hlow, hhigh⟩ := floorShift_bounds (dot r x + 2 ^ 23) 24
  generalize floorShift (dot r x + 2 ^ 23) 24 = q at *
  rcases lt_or_ge q (-2 ^ 31) with hq | hq
  · exact .inr (.inr ⟨by omega, by omega⟩)
  rcases lt_or_ge q (2 ^ 31) with hq' | hq'
  · exact .inl ⟨by omega, by omega⟩
  · exact .inr (.inl ⟨by omega, by omega⟩)

/-- Settles O45: the rounding law, the definition of the matrix product, and rule R208's examples by evaluation. -/
theorem macRoundsAndSaturates : Obligations.MacRoundsAndSaturates :=
  ⟨mac_rounds_or_saturates, fun _ _ => rfl, by decide, by decide, by decide, by decide⟩

/-! # The transform chain (O46) -/

/-- A row whose exact sum of products is a word's value in units of 2^-24 gives that word: nothing is rounded off (rule
R208). -/
theorem mac_of_dot_exact {r x : Lin} {v : Word} (h : dot r x = v.toInt * 2 ^ Config.frac) : mac r x = v := by
  rw [mac, h]
  exact (congrArg sat32 (floorShift_round_exact v.toInt 23)).trans (sat32_toInt v)

/-- The identity matrix is exact (rules R53 and R208). -/
theorem matmul_identityMat (x : Lin) : matmul identityMat x = x := by
  have hone : (0x01000000#32).toInt = 2 ^ Config.frac := by decide
  have hrow0 : mac identityMat.r0 x = x.c0 := mac_of_dot_exact (by simp [dot, identityMat, hone, mul_comm])
  have hrow1 : mac identityMat.r1 x = x.c1 := mac_of_dot_exact (by simp [dot, identityMat, hone, mul_comm])
  have hrow2 : mac identityMat.r2 x = x.c2 := mac_of_dot_exact (by simp [dot, identityMat, hone, mul_comm])
  rw [matmul, hrow0, hrow1, hrow2]

/-- A stage with the identity matrix changes no colour, enabled or not (rule R209). -/
@[simp] theorem stage_identityMat (enabled : Bool) (x : Lin) : stage enabled identityMat x = x := by
  cases enabled with
  | false => rfl
  | true => exact matmul_identityMat x

/-- Without XS the transform is the three stages in order (rule R209). -/
theorem transform_chain (s : State) (ch : Chain) (x : Lin) :
    s.transform ch false x = stage ch.m2 s.m2 (stage ch.m1 s.m1 (stage ch.m0 s.m0 x)) := rfl

/-- Settles O46: after a reset each stage of the chain has the identity matrix. -/
theorem transformChain : Obligations.TransformChain :=
  ⟨fun _ _ _ => rfl, transform_chain, matmul_identityMat, fun mem bus ins n ch x => by
    rw [transform_chain]
    simp only [State.afterReset, stage_identityMat]⟩

end Sys2Proof.Machine

namespace Sys2Proof.Machine

/-! # One element of the grid commands (O35, O39 and O40) -/

/-- The step of a BUILD cell stores its word there and ends the element (rules R186 and R250). -/
theorem exec_build_cell {db eb : Bank} {ch : Chain} {xs : Bool} {s : State} {l : List Word} {k : Nat}
    (hp : s.phase = .run l k) (hn : s.progress.toNat < 32768) :
    ∃ t, storesCell s t s.progress.toNat (s.buildCell db eb ch xs s.progress.toNat) ∧
      exec (.build db eb ch xs) s = .next (elementDone t 32768 true) := by
  refine ⟨_, storesCell_setGrid _ _ _, ?_⟩
  rw [exec_eq_step, step_run _ _ hp]
  exact (engineStep_whole (c := buildCommand db eb ch xs) hn rfl rfl).trans (congrArg _ (finishElement_eq ..))

/-- The step of a LUT_LOAD image word stores it in its cell and ends the element (rules R186 and R280). -/
theorem exec_lutLoad_word {s : State} {k : Nat} (hp : s.phase = .run [] k) (hn : s.progress.toNat < 32768)
    (hg : portGood s (s.src.toNat + 4 * s.progress.toNat)) :
    ∃ t, storesCell s t (imageCell s.progress.toNat) (s.mem.word (s.src.toNat + 4 * s.progress.toNat)) ∧
      exec .lutLoad s = .next (elementDone t 32768 true) := by
  refine ⟨_, storesCell_setGrid _ _ _, ?_⟩
  rw [exec_eq_step, step_run _ _ hp]
  exact (engineStep_read_last (c := lutLoadCommand) (l := []) hn rfl rfl hg).trans (congrArg _ (finishElement_eq ..))

/-- The step of a LUT_STORE image word stores its cell's word in memory and ends the element (rules R186 and R285). -/
theorem exec_lutStore_word {s : State} {l : List Word} (hp : s.phase = .run l 0) (hn : s.progress.toNat < 32768)
    (hg : portGood s (s.dst.toNat + 4 * s.progress.toNat)) :
    ∃ t, storesWord s t (s.dst.toNat + 4 * s.progress.toNat) (s.gridAt (imageCell s.progress.toNat)) ∧
      exec .lutStore s = .next (elementDone t 32768 false) := by
  rw [exec_eq_step, step_run _ _ hp]
  exact engineStep_write_last (c := lutStoreCommand) (k := 0) hn (Nat.zero_le _) rfl rfl hg

/-- BUILD's word for a cell is the encoded transform of its decoded sample pixel (rule R250). -/
theorem buildCell_of_samplePixel {n : Nat} {r g b a : Byte} (h : samplePixel n = pack r g b a) (s : State)
    (db eb : Bank) (ch : Chain) (xs : Bool) :
    s.buildCell db eb ch xs n = s.encodePixel eb (s.transform ch xs ⟨s.dec db r, s.dec db g, s.dec db b⟩) := by
  simp only [State.buildCell, State.decodePixel, h, red_pack, green_pack, blue_pack]

/-- Settles O35: BUILD's cell is the encoded transform of the decoded sample pixel. -/
theorem buildFillsCell : Obligations.BuildFillsCell := by
  intro db eb ch xs s l k hp hn
  obtain ⟨t, hcell, hexec⟩ := exec_build_cell hp hn
  rw [buildCell_of_samplePixel (samplePixel_eq _)] at hcell
  exact ⟨t, hcell, hexec⟩

/-- Settles O39, with the image map in numbers. -/
theorem lutLoadFillsCell : Obligations.LutLoadFillsCell := by
  intro s k hp hn hg
  simpa only [imageCell_eq] using exec_lutLoad_word hp hn hg

/-- Settles O40, with the image map in numbers. -/
theorem lutStoreWritesCell : Obligations.LutStoreWritesCell := by
  intro s l hp hn hg
  simpa only [imageCell_eq] using exec_lutStore_word hp hn hg

/-! # Whole runs of the grid commands (O58 and O59)

BUILD, LUT_LOAD and LUT_STORE take one engine step for each of their 32768 elements, so one induction over the elements
serves all three; they differ in what the elements done so far have made of the grid and of memory. -/

/-- The state of a run of a grid command `i` from `s` when `e` elements are done, the grid holds `g` and memory is `m`:
the engine stands at the beginning of the next element, or has completed (rules R182, R186 and R187). -/
def gridRunAt (s : State) (i : Instr) (e : Nat) (g : List (Nat × Word)) (m : Memory) : State :=
  { s with
    cmd := encode i
    done := decide (32768 ≤ e)
    err := false
    errCode := 0#4
    errAddr := 0#32
    progress := BitVec.ofNat 32 e
    phase := if 32768 ≤ e then .idle else .run [] 0
    gvalid := if (commandOf i).fillsGrid then decide (32768 ≤ e) else s.gvalid
    grid := g
    mem := m
    inputs := [] }

theorem gridRunAt_phase {e : Nat} (he : e < 32768) (s : State) (i : Instr) (g : List (Nat × Word)) (m : Memory) :
    (gridRunAt s i e g m).phase = .run [] 0 := if_neg (Nat.not_le.mpr he)

theorem gridRunAt_progress {e : Nat} (he : e < 32768) (s : State) (i : Instr) (g : List (Nat × Word)) (m : Memory) :
    (gridRunAt s i e g m).progress.toNat = e := by
  simp only [gridRunAt, BitVec.toNat_ofNat]
  omega

/-- The end of an element is the beginning of the next one, or the completion (rules R186 and R187). -/
theorem elementDone_gridRunAt {e : Nat} (he : e < 32768) (s : State) (i : Instr) (g : List (Nat × Word)) (m : Memory) :
    elementDone (gridRunAt s i e g m) 32768 (commandOf i).fillsGrid = gridRunAt s i (e + 1) g m := by
  have hnext : BitVec.ofNat 32 e + 1#32 = BitVec.ofNat 32 (e + 1) := (BitVec.ofNat_add e 1).symm
  unfold elementDone
  rw [gridRunAt_progress he]
  split
  · rename_i hlt
    simp [gridRunAt, hnext, Nat.not_le.mpr hlt, Nat.not_le.mpr he]
  · rename_i hlast
    cases hf : (commandOf i).fillsGrid <;> simp [gridRunAt, hnext, hf, Nat.not_lt.mp hlast]

/-- The run begins with what acceptance leaves (rules R180 and R182). -/
theorem gridRunAt_zero (s : State) (i : Instr) :
    { running { s with inputs := [] } (encode i) with gvalid := s.gvalid && !(commandOf i).fillsGrid } =
      gridRunAt s i 0 s.grid s.mem := by
  cases hf : (commandOf i).fillsGrid <;> simp [gridRunAt, running, hf]

/-- The host's write of a valid grid command is the beginning of its run. -/
theorem step_gridCommand {i : Instr} {s : State} (hwf : i.wf = true) (hel : (commandOf i).elements = .cells)
    (hp : s.phase = .idle) (hin : s.inputs = [.hostWrite 0x010#12 (encode i)])
    (hv : (commandOf i).firstError (({ s with inputs := [] } : State).accept (encode i)) = none) :
    step s = .next (gridRunAt s i 0 s.grid s.mem) := by
  have hcells : (commandOf i).elements.number { s with inputs := [] } ≠ 0 := by
    rw [hel]
    exact (by decide : Config.cells ≠ 0)
  rw [step_cmdWrite hwf hp hin, begin_of_valid hv hcells, ← gridRunAt_zero]

/-- If each element keeps `P`, which speaks of how many elements are done, the grid and memory, then the whole run of a
valid grid command leads from `P` of no element to `P` of all elements. -/
theorem run_gridCommand {i : Instr} {s : State} {P : Nat → List (Nat × Word) → Memory → Prop} (hwf : i.wf = true)
    (hel : (commandOf i).elements = .cells) (hp : s.phase = .idle)
    (hin : s.inputs = [.hostWrite 0x010#12 (encode i)])
    (hv : (commandOf i).firstError (({ s with inputs := [] } : State).accept (encode i)) = none)
    (hzero : P 0 s.grid s.mem)
    (hsucc : ∀ e g m, e < 32768 → P e g m → ∃ g' m', P (e + 1) g' m' ∧
      exec i (gridRunAt s i e g m) = .next (gridRunAt s i (e + 1) g' m')) :
    ∃ g m, Sys2Proof.core.run (1 + 32768) s = .next (gridRunAt s i 32768 g m) ∧ P 32768 g m := by
  have hrun (e : Nat) (he : e ≤ 32768) :
      ∃ g m, Sys2Proof.core.run e (gridRunAt s i 0 s.grid s.mem) = .next (gridRunAt s i e g m) ∧ P e g m := by
    induction e with
    | zero => exact ⟨s.grid, s.mem, rfl, hzero⟩
    | succ e ih =>
      obtain ⟨g, m, hrun, hP⟩ := ih (Nat.le_of_succ_le he)
      obtain ⟨g', m', hP', hexec⟩ := hsucc e g m he hP
      have hstep : step (gridRunAt s i e g m) = exec i (gridRunAt s i e g m) :=
        step_engine rfl (gridRunAt_phase he s i g m) (decode_encode_of_wf hwf)
      exact ⟨g', m', (run_append hrun).trans (run_one (hstep.trans hexec)), hP'⟩
  obtain ⟨g, m, hall, hP⟩ := hrun 32768 le_rfl
  exact ⟨g, m, (run_append (run_one (step_gridCommand hwf hel hp hin hv))).trans hall, hP⟩

/-- The port is good at every word of a good image on a responding bus (rules R110 and R112). -/
theorem portGood_imageWord {s : State} {base : Word} {e : Nat} (hal : base.toNat % 4 = 0)
    (htop : base.toNat + 131072 ≤ 2 ^ 32) (hbus : ∀ m, m < 32768 → s.busOk (base.toNat + 4 * m) = true)
    (he : e < 32768) : portGood s (base.toNat + 4 * e) :=
  ⟨by omega, by omega, hbus e he⟩

/-! ## Filling the grid -/

/-- The first `e` elements have filled the grid: the cell `cell j` of element `j` holds the word `v j`. -/
def cellsFilled (s : State) (cell : Nat → Nat) (v : Nat → Word) (e : Nat) (g : List (Nat × Word)) : Prop :=
  ∀ j, j < e → ({ s with grid := g } : State).gridAt (cell j) = v j

/-- A run of a valid command that fills the grid fills every cell and leaves memory, when each element stores the word
of its own cell and no two elements have the same cell. -/
theorem run_fillingCommand {i : Instr} {s : State} {cell : Nat → Nat} {v : Nat → Word} (hwf : i.wf = true)
    (hf : (commandOf i).fillsGrid = true) (hp : s.phase = .idle) (hin : s.inputs = [.hostWrite 0x010#12 (encode i)])
    (hv : (commandOf i).firstError (({ s with inputs := [] } : State).accept (encode i)) = none)
    (hinj : ∀ j k, j < 32768 → k < 32768 → cell j = cell k → j = k)
    (hcell : ∀ e g, e < 32768 → ∃ t, storesCell (gridRunAt s i e g s.mem) t (cell e) (v e) ∧
      exec i (gridRunAt s i e g s.mem) = .next (elementDone t 32768 true)) :
    ∃ g, Sys2Proof.core.run (1 + 32768) s = .next (gridRunAt s i 32768 g s.mem) ∧ cellsFilled s cell v 32768 g := by
  obtain ⟨g, m, hrun, rfl, hg⟩ :=
    run_gridCommand (P := fun e g m => m = s.mem ∧ cellsFilled s cell v e g) hwf (elements_of_fillsGrid i hf) hp hin
      hv ⟨rfl, nofun⟩ fun e g m he ⟨hm, hg⟩ => by
        subst hm
        obtain ⟨t, ⟨ht, hsame, hother⟩, hexec⟩ := hcell e g he
        have hend : elementDone t 32768 true = gridRunAt s i (e + 1) t.grid s.mem := by
          rw [← elementDone_gridRunAt he, hf, ht]
          rfl
        rw [ht] at hsame hother
        refine ⟨t.grid, s.mem, ⟨rfl, fun j hj => ?_⟩, hexec.trans (congrArg _ hend)⟩
        rcases Nat.lt_succ_iff_lt_or_eq.mp hj with hlt | rfl
        · exact (hother _ fun heq => hlt.ne (hinj _ _ (hlt.trans he) he heq)).trans (hg j hlt)
        · exact hsame
  exact ⟨g, hrun, hg⟩

/-- A whole BUILD fills every cell (rule R250). -/
theorem run_build {db eb : Bank} {ch : Chain} {xs : Bool} {s : State} (hlegal : transformLegal ch xs = true)
    (hp : s.phase = .idle) (hin : s.inputs = [.hostWrite 0x010#12 (encode (.build db eb ch xs))]) :
    ∃ g, Sys2Proof.core.run (1 + 32768) s = .next (gridRunAt s (.build db eb ch xs) 32768 g s.mem) ∧
      cellsFilled s id (s.buildCell db eb ch xs) 32768 g := by
  refine run_fillingCommand (i := .build db eb ch xs) hlegal rfl hp hin (firstError_build hlegal _)
    (fun _ _ _ _ heq => heq) fun e g he => ?_
  have hcell := exec_build_cell (db := db) (eb := eb) (ch := ch) (xs := xs)
    (gridRunAt_phase he s (.build db eb ch xs) g s.mem)
  rw [gridRunAt_progress he] at hcell
  exact hcell he

/-- A whole LUT_LOAD of a good image on a responding bus fills every cell with its image word (rule R280). -/
theorem run_lutLoad {s : State} (hp : s.phase = .idle) (hin : s.inputs = [.hostWrite 0x010#12 (encode .lutLoad)])
    (hcount : s.count = 0x00200400#32) (hal : s.src.toNat % 4 = 0) (htop : s.src.toNat + 131072 ≤ 2 ^ 32)
    (hbus : ∀ m, m < 32768 → s.busOk (s.src.toNat + 4 * m) = true) :
    ∃ g, Sys2Proof.core.run (1 + 32768) s = .next (gridRunAt s .lutLoad 32768 g s.mem) ∧
      cellsFilled s imageCell (fun m => s.mem.word (s.src.toNat + 4 * m)) 32768 g := by
  obtain ⟨-, hinj, -⟩ := imageMapIsBijection
  refine run_fillingCommand (i := .lutLoad) rfl rfl hp hin (firstError_lutLoad hcount hal htop) hinj fun e g he => ?_
  have hword := exec_lutLoad_word (gridRunAt_phase he s .lutLoad g s.mem)
  rw [gridRunAt_progress he] at hword
  exact hword he (portGood_imageWord (s := s) hal htop hbus he)

/-! ## Storing the grid -/

/-- The first `e` words of the image at DST hold the cells of the grid (rule R285). -/
def imageStored (s : State) (e : Nat) (m : Memory) : Prop :=
  ∀ j, j < e → m.word (s.dst.toNat + 4 * j) = s.gridAt (imageCell j)

/-- A whole LUT_STORE of a good image on a responding bus stores every cell and leaves the grid (rule R285). -/
theorem run_lutStore {s : State} (hp : s.phase = .idle) (hin : s.inputs = [.hostWrite 0x010#12 (encode .lutStore)])
    (hcount : s.count = 0x00200400#32) (hal : s.dst.toNat % 4 = 0) (htop : s.dst.toNat + 131072 ≤ 2 ^ 32)
    (hbus : ∀ m, m < 32768 → s.busOk (s.dst.toNat + 4 * m) = true) :
    ∃ m, Sys2Proof.core.run (1 + 32768) s = .next (gridRunAt s .lutStore 32768 s.grid m) ∧
      imageStored s 32768 m := by
  obtain ⟨g, m, hrun, rfl, hm⟩ :=
    run_gridCommand (i := .lutStore) (P := fun e g m => g = s.grid ∧ imageStored s e m) rfl rfl hp hin
      (firstError_lutStore hcount hal htop) ⟨rfl, nofun⟩ fun e g m he ⟨hg, hm⟩ => by
        subst hg
        have hword := exec_lutStore_word (gridRunAt_phase he s .lutStore s.grid m)
        rw [gridRunAt_progress he] at hword
        obtain ⟨t, ⟨ht, hsame, hother⟩, hexec⟩ := hword he (portGood_imageWord (s := s) hal htop hbus he)
        have hend : elementDone t 32768 false = gridRunAt s .lutStore (e + 1) s.grid t.mem := by
          rw [← elementDone_gridRunAt he, ht]
          rfl
        refine ⟨s.grid, t.mem, ⟨rfl, fun j hj => ?_⟩, hexec.trans (congrArg _ hend)⟩
        rcases Nat.lt_succ_iff_lt_or_eq.mp hj with hlt | rfl
        · refine (word_congr fun b _ hhi => hother b (.inl ?_)).trans (hm j hlt)
          change b < s.dst.toNat + 4 * e
          omega
        · exact hsame
  exact ⟨m, hrun, hm⟩

/-- The sample pixel of cell (i, j, k) (rule R251). -/
theorem samplePixel_cell {i j k : Nat} (hj : j < 32) (hk : k < 32) :
    samplePixel (i * 1024 + j * 32 + k) = pack (BitVec.ofNat 8 (8 * k + 4)) (BitVec.ofNat 8 (8 * j + 4))
      (BitVec.ofNat 8 (8 * i + 4)) 255#8 := by
  have hred : (i * 1024 + j * 32 + k) % 32 = k := by omega
  have hgreen : (i * 1024 + j * 32 + k) / 32 % 32 = j := by omega
  have hblue : (i * 1024 + j * 32 + k) / 1024 = i := by omega
  rw [samplePixel_eq, hred, hgreen, hblue, Nat.mul_comm k, Nat.mul_comm j, Nat.mul_comm i]

/-- Settles O58: the run of BUILD fills each cell with the encoded transform of its sample pixel. -/
theorem buildRunFillsGrid : Obligations.BuildRunFillsGrid := by
  intro db eb ch xs s hlegal hp hin
  obtain ⟨g, hrun, hcells⟩ := run_build hlegal hp hin
  refine ⟨_, hrun, fun i j k hi hj hk => ?_, rfl⟩
  have hcell := hcells (i * 1024 + j * 32 + k) (by omega)
  exact hcell.trans (buildCell_of_samplePixel (samplePixel_cell hj hk) s db eb ch xs)

/-- Settles O59: the image map is its own inverse, so cell `n` is reloaded from image word `imageCell n`, where
LUT_STORE put it. -/
theorem storeThenLoadRestoresGrid : Obligations.StoreThenLoadRestoresGrid := by
  intro s hp hin hcount hsrc hal htop hbus
  obtain ⟨m, hstore, himage⟩ := run_lutStore hp hin hcount hal htop hbus
  refine ⟨_, hstore, rfl, rfl, fun g => ?_⟩
  obtain ⟨g', hload, hcells⟩ := run_lutLoad
    (s := { gridRunAt s .lutStore 32768 s.grid m with grid := g, inputs := [.hostWrite 0x010#12 0x00000009#32] })
    rfl rfl hcount (hsrc ▸ hal) (hsrc ▸ htop) (hsrc ▸ hbus)
  refine ⟨_, hload, rfl, rfl, rfl, rfl, fun n hn => ?_⟩
  have hloaded := hcells (imageCell n) (imageCell_lt hn)
  have hstored := himage (imageCell n) (imageCell_lt hn)
  rw [imageCell_imageCell hn] at hloaded hstored
  rw [← hsrc] at hstored
  exact hloaded.trans hstored

/-! # The axis computation (O47) -/

/-- The unadjusted coordinates at B = 5 (rule R255). -/
theorem axisRaw_eq (p : Byte) :
    axisRaw p = ⟨((p.toNat : Int) + 4) / 8 - 1, ((p.toNat : Int) + 4) / 8, ((p.toNat : Int) + 4) % 8⟩ := by
  have hmod : (p.toNat + 4) &&& 7 = (p.toNat + 4) % 8 := Nat.and_two_pow_sub_one_eq_mod _ 3
  have hdiv : (p.toNat + 4) >>> 3 = (p.toNat + 4) / 8 := Nat.shiftRight_eq_div_pow _ 3
  simp [axisRaw, Config.half, Config.fracShift, Config.lutBits, Config.ovf, hmod, hdiv]

/-- Neither adjustment applies to a channel value from 4 to 251 (rule R255). -/
theorem axis_inside {p : Byte} (x : Bool) (h4 : 4 ≤ p.toNat) (h252 : p.toNat < 252) :
    axis p x = ⟨((p.toNat : Int) + 4) / 8 - 1, ((p.toNat : Int) + 4) / 8, ((p.toNat : Int) + 4) % 8⟩ := by
  have hlow : ¬((p.toNat : Int) + 4) / 8 - 1 < 0 := by omega
  have hhigh : ¬(32 : Int) ≤ ((p.toNat : Int) + 4) / 8 := by omega
  rw [axis, axisRaw_eq, axisLow, if_neg hlow, axisHigh]
  exact if_neg hhigh

/-- Below 4 the low adjustment applies (rules R255, R258 and R259). -/
theorem axis_low {p : Byte} (h4 : p.toNat < 4) :
    axis p true = ⟨0, 1, p.toNat - 4⟩ ∧ axis p false = ⟨0, 0, p.toNat + 4⟩ := by
  have hdiv : ((p.toNat : Int) + 4) / 8 = 0 := by omega
  have hmod : ((p.toNat : Int) + 4) % 8 = p.toNat + 4 := by omega
  have hweight : (p.toNat : Int) + 4 - 8 = p.toNat - 4 := by omega
  rw [axis, axis, axisRaw_eq, hdiv, hmod]
  exact ⟨congrArg (Axis.mk 0 1) hweight, rfl⟩

/-- From 252 on the high adjustment applies (rules R255, R258 and R259). -/
theorem axis_high {p : Byte} (h252 : 252 ≤ p.toNat) :
    axis p true = ⟨30, 31, p.toNat - 244⟩ ∧ axis p false = ⟨31, 31, p.toNat - 252⟩ := by
  have hlt := p.isLt
  have hdiv : ((p.toNat : Int) + 4) / 8 = 32 := by omega
  have hmod : ((p.toNat : Int) + 4) % 8 = p.toNat - 252 := by omega
  have hweight : (p.toNat : Int) - 252 + 8 = p.toNat - 244 := by omega
  rw [axis, axis, axisRaw_eq, hdiv, hmod]
  exact ⟨congrArg (Axis.mk 30 31) hweight, rfl⟩

/-- A channel value lies below, inside or above the outermost sample points (rule R255). -/
theorem channel_cases (p : Byte) : p.toNat < 4 ∨ (4 ≤ p.toNat ∧ p.toNat < 252) ∨ 252 ≤ p.toNat := by omega

/-- `axis(p, 1)` at B = 5 (rules R255 and R258). -/
theorem axis_extrapolating (p : Byte) :
    axis p true =
      if (p.toNat : Int) < 4 then ⟨0, 1, p.toNat - 4⟩
      else if 252 ≤ (p.toNat : Int) then ⟨30, 31, p.toNat - 244⟩
      else ⟨((p.toNat : Int) + 4) / 8 - 1, ((p.toNat : Int) + 4) / 8, ((p.toNat : Int) + 4) % 8⟩ := by
  rcases channel_cases p with h4 | ⟨h4, h252⟩ | h252
  · rw [(axis_low h4).1, if_pos (by omega)]
  · rw [axis_inside true h4 h252, if_neg (by omega), if_neg (by omega)]
  · rw [(axis_high h252).1, if_neg (by omega), if_pos (by omega)]

/-- `axis(p, 0)` at B = 5 (rules R255 and R259). -/
theorem axis_clamping (p : Byte) :
    axis p false =
      ⟨if (p.toNat : Int) < 4 then 0 else ((p.toNat : Int) + 4) / 8 - 1,
        if 252 ≤ (p.toNat : Int) then 31 else ((p.toNat : Int) + 4) / 8, ((p.toNat : Int) + 4) % 8⟩ := by
  have hlt := p.isLt
  rcases channel_cases p with h4 | ⟨h4, h252⟩ | h252
  · rw [(axis_low h4).2, Axis.mk.injEq]
    omega
  · rw [axis_inside false h4 h252, if_neg (by omega), if_neg (by omega)]
  · rw [(axis_high h252).2, Axis.mk.injEq]
    omega

/-- Both indices of an axis lie in the grid (rules R258 and R259). -/
theorem axis_bounds (p : Byte) (x : Bool) :
    0 ≤ (axis p x).i0 ∧ (axis p x).i0 ≤ 31 ∧ 0 ≤ (axis p x).i1 ∧ (axis p x).i1 ≤ 31 := by
  have hlt := p.isLt
  cases x with
  | false =>
    rw [axis_clamping]
    dsimp only
    omega
  | true =>
    rw [axis_extrapolating]
    split_ifs
    all_goals
      dsimp only
      omega

/-- The weight of an extrapolating axis (rule R258). -/
theorem axis_weight_extrapolating (p : Byte) :
    -4 ≤ (axis p true).weight ∧ (axis p true).weight ≤ 11 ∧ ((axis p true).weight < 0 ↔ p.toNat < 4) ∧
      (8 ≤ (axis p true).weight ↔ 252 ≤ p.toNat) := by
  have hlt := p.isLt
  rw [axis_extrapolating]
  split_ifs
  all_goals
    dsimp only
    omega

/-- The weight of a clamping axis (rule R259). -/
theorem axis_weight_clamping (p : Byte) : 0 ≤ (axis p false).weight ∧ (axis p false).weight ≤ 7 := by
  rw [axis_clamping]
  dsimp only
  omega

/-- Settles O47: the formulas, the bounds that follow from them, and the boundary values by evaluation. -/
theorem axisStaysInGrid : Obligations.AxisStaysInGrid :=
  ⟨fun p => ⟨axis_extrapolating p, axis_clamping p, axis_bounds p, axis_weight_extrapolating p,
      axis_weight_clamping p⟩, by decide⟩

/-! # The blend (O48) -/

/-- The blend before the clamp is a floor quotient at B = 5 (rule R257). -/
theorem blendRaw_eq (a b : Byte) (w : Int) : blendRaw a b w = ((8 - w) * a.toNat + w * b.toNat) / 8 := rfl

/-- A byte narrowed from an integer that a byte can hold has its value. -/
theorem toNat_ofInt_byte {v : Int} (hlo : 0 ≤ v) (hhi : v ≤ 255) : ((BitVec.ofInt 8 v).toNat : Int) = v := by
  rw [BitVec.toNat_ofInt]
  omega

/-- Extrapolating, the blend is the floor quotient clamped to [0, 255] (rule R260). -/
theorem toNat_blend_extrapolating (a b : Byte) (w : Int) :
    ((blend a b w true).toNat : Int) = max 0 (min 255 (((8 - w) * a.toNat + w * b.toNat) / 8)) := by
  rw [blend, if_pos rfl, toNat_ofInt_byte (by omega) (by omega), blendRaw_eq]
  omega

/-- A blend whose floor quotient a byte can hold is the quotient, clamped or not (rules R257 and R260). -/
theorem toNat_blend_of_byte {a b : Byte} {w : Int} (x : Bool) (hlo : 0 ≤ ((8 - w) * a.toNat + w * b.toNat) / 8)
    (hhi : ((8 - w) * a.toNat + w * b.toNat) / 8 ≤ 255) :
    ((blend a b w x).toNat : Int) = ((8 - w) * a.toNat + w * b.toNat) / 8 := by
  cases x with
  | false => exact toNat_ofInt_byte hlo hhi
  | true =>
    rw [toNat_blend_extrapolating]
    omega

/-- For a weight inside the cell the floor quotient lies between the corners (rule R261). -/
theorem quotient_between {a b w : Int} (h0 : 0 ≤ w) (h8 : w < 8) :
    min a b ≤ ((8 - w) * a + w * b) / 8 ∧ ((8 - w) * a + w * b) / 8 ≤ max a b := by
  have hw : 0 ≤ 8 - w := by omega
  have hlow : (8 - w) * min a b + w * min a b ≤ (8 - w) * a + w * b :=
    add_le_add (mul_le_mul_of_nonneg_left (min_le_left a b) hw) (mul_le_mul_of_nonneg_left (min_le_right a b) h0)
  have hhigh : (8 - w) * a + w * b ≤ (8 - w) * max a b + w * max a b :=
    add_le_add (mul_le_mul_of_nonneg_left (le_max_left a b) hw) (mul_le_mul_of_nonneg_left (le_max_right a b) h0)
  rw [← add_mul, sub_add_cancel] at hlow hhigh
  omega

/-- Between equal corners the blend is the corner, whatever the weight (rule R261). -/
theorem blend_same (a : Byte) (w : Int) (x : Bool) : blend a a w x = a := by
  have hquotient : ((8 - w) * a.toNat + w * a.toNat) / 8 = a.toNat := by
    rw [← add_mul, sub_add_cancel]
    omega
  have ha := a.isLt
  apply BitVec.eq_of_toNat_eq
  have hblend := toNat_blend_of_byte (a := a) (b := a) (w := w) x (by omega) (by omega)
  omega

/-- For a weight inside the cell the blend is the floor quotient, which lies between the corners (rules R257 and
R261). -/
theorem toNat_blend_inside (a b : Byte) {w : Int} (x : Bool) (h0 : 0 ≤ w) (h8 : w < 8) :
    min a.toNat b.toNat ≤ (blend a b w x).toNat ∧ (blend a b w x).toNat ≤ max a.toNat b.toNat ∧
      ((blend a b w x).toNat : Int) = ((8 - w) * a.toNat + w * b.toNat) / 8 := by
  have ha := a.isLt
  have hb := b.isLt
  obtain ⟨hlow, hhigh⟩ := quotient_between (a := a.toNat) (b := b.toNat) h0 h8
  have hblend := toNat_blend_of_byte (a := a) (b := b) (w := w) x (by omega) (by omega)
  omega

/-- Settles O48: equal corners, a weight inside the cell, and the clamp of an extrapolating blend. -/
theorem blendBounds : Obligations.BlendBounds :=
  ⟨blend_same, fun a b _ x h0 h8 => toNat_blend_inside a b x h0 h8, toNat_blend_extrapolating⟩

/-! # The writes of the sampling commands (O36, O37 and O38) -/

/-- The low and the high corner of a pixel by their cell numbers (rules R240 and R256). -/
theorem lowCorner_eq (s : State) (w : Word) (x : Bool) :
    s.lowCorner w x =
      s.gridAt ((axis (blue w) x).i0 * 1024 + (axis (green w) x).i0 * 32 + (axis (red w) x).i0).toNat := by
  obtain ⟨hred, -⟩ := axis_bounds (red w) x
  obtain ⟨hgreen, -⟩ := axis_bounds (green w) x
  obtain ⟨hblue, -⟩ := axis_bounds (blue w) x
  rw [State.lowCorner]
  congr 1
  simp only [cellNumber, Config.edge, Config.lutBits]
  omega

theorem highCorner_eq (s : State) (w : Word) (x : Bool) :
    s.highCorner w x =
      s.gridAt ((axis (blue w) x).i1 * 1024 + (axis (green w) x).i1 * 32 + (axis (red w) x).i1).toNat := by
  obtain ⟨-, -, hred, -⟩ := axis_bounds (red w) x
  obtain ⟨-, -, hgreen, -⟩ := axis_bounds (green w) x
  obtain ⟨-, -, hblue, -⟩ := axis_bounds (blue w) x
  rw [State.highCorner]
  congr 1
  simp only [cellNumber, Config.edge, Config.lutBits]
  omega

/-- Settles O36: APPLY_TRI writes one word an element, the blend of the two corners. -/
theorem applyTriWritesBlend : Obligations.ApplyTriWritesBlend := by
  intro x s w hp hn hg
  simp only [← lowCorner_eq, ← highCorner_eq]
  exact exec_writePixel (i := .applyTri x) rfl hp rfl rfl hn hg

/-- Settles O37: APPLY_NEAREST writes one word an element, the opaque pixel of the nearest cell. -/
theorem applyNearestWritesCell : Obligations.ApplyNearestWritesCell := by
  intro s w hp hn hg
  simp only [← nearestCell_eq]
  exact exec_writePixel (i := .applyNearest) rfl hp rfl rfl hn hg

/-- Settles O38: APPLY_MONO writes one word an element, the opaque pixel of the ramp entry. -/
theorem applyMonoWritesRampEntry : Obligations.ApplyMonoWritesRampEntry := by
  intro db eb ms s w hp hn hg
  cases ms with
  | red | green | blue | luminance => exact exec_writePixel (i := .applyMono db eb _) rfl hp rfl rfl hn hg

/-! # The identity grid (O49) -/

/-- Between the identity values of two neighbouring indices a channel value that lies its weight above the lower one
blends to itself (rules R256 and R257). -/
theorem blend_neighbours {p : Byte} {i j : Nat} {w : Int} (x : Bool) (hj : j = i + 1) (hi : i < 31)
    (hp : (p.toNat : Int) = 8 * i + 4 + w) :
    blend (BitVec.ofNat 8 (8 * i + 4)) (BitVec.ofNat 8 (8 * j + 4)) w x = p := by
  have hlt := p.isLt
  have ha : ((BitVec.ofNat 8 (8 * i + 4)).toNat : Int) = 8 * i + 4 := by rw [BitVec.toNat_ofNat]; omega
  have hb : ((BitVec.ofNat 8 (8 * j + 4)).toNat : Int) = 8 * i + 4 + 8 := by rw [BitVec.toNat_ofNat]; omega
  have hquotient (a : Int) : ((8 - w) * a + w * (a + 8)) / 8 = a + w := by
    rw [show (8 - w) * a + w * (a + 8) = 8 * (a + w) by ring]
    omega
  have hblend := toNat_blend_of_byte (a := BitVec.ofNat 8 (8 * i + 4)) (b := BitVec.ofNat 8 (8 * j + 4)) (w := w) x
  rw [ha, hb, hquotient] at hblend
  exact BitVec.eq_of_toNat_eq (Int.natCast_inj.mp ((hblend (by omega) (by omega)).trans hp.symm))

/-- What a channel value becomes on the identity grid: extrapolating it is kept, otherwise it is clamped to the
outermost identity values (rule R256's example). -/
def identityChannel (p : Byte) (x : Bool) : Byte := if x then p else BitVec.ofNat 8 (max 4 (min 252 p.toNat))

theorem identityChannel_inside {p : Byte} (x : Bool) (h4 : 4 ≤ p.toNat) (h252 : p.toNat < 252) :
    identityChannel p x = p := by
  cases x with
  | false =>
    rw [identityChannel, if_neg (by decide), min_eq_right (by omega), max_eq_right h4, BitVec.ofNat_toNat]
    exact BitVec.setWidth_eq p
  | true => rfl

/-- A channel value blended along its own axis between identity values. -/
theorem blend_identity (p : Byte) (x : Bool) :
    blend (BitVec.ofNat 8 (8 * (axis p x).i0.toNat + 4)) (BitVec.ofNat 8 (8 * (axis p x).i1.toNat + 4))
      (axis p x).weight x = identityChannel p x := by
  rcases channel_cases p with h4 | ⟨h4, h252⟩ | h252
  · cases x with
    | false =>
      rw [(axis_low h4).2, blend_same, identityChannel, if_neg (by decide), max_eq_left (by omega)]
      rfl
    | true =>
      rw [(axis_low h4).1]
      exact blend_neighbours (p := p) (i := 0) (j := 1) (w := p.toNat - 4) true rfl (by omega) (by omega)
  · rw [axis_inside x h4 h252, identityChannel_inside x h4 h252]
    dsimp only
    exact blend_neighbours x (by omega) (by omega) (by omega)
  · cases x with
    | false =>
      rw [(axis_high h252).2, blend_same, identityChannel, if_neg (by decide), min_eq_left h252]
      rfl
    | true =>
      rw [(axis_high h252).1]
      exact blend_neighbours (p := p) (i := 30) (j := 31) (w := p.toNat - 244) true rfl (by omega) (by omega)

/-- The grid holds at every cell its own sample point (rule R256's example). -/
def holdsIdentity (s : State) : Prop :=
  ∀ i j k, i < 32 → j < 32 → k < 32 → s.gridAt (1024 * i + 32 * j + k) =
    pack (BitVec.ofNat 8 (8 * k + 4)) (BitVec.ofNat 8 (8 * j + 4)) (BitVec.ofNat 8 (8 * i + 4)) 255#8

theorem gridAt_cellNumber_of_holdsIdentity {s : State} (h : holdsIdentity s) {i j k : Nat} (hi : i < 32) (hj : j < 32)
    (hk : k < 32) : s.gridAt (cellNumber i j k) =
      pack (BitVec.ofNat 8 (8 * k + 4)) (BitVec.ofNat 8 (8 * j + 4)) (BitVec.ofNat 8 (8 * i + 4)) 255#8 := by
  have hcell : cellNumber i j k = 1024 * i + 32 * j + k := by
    simp only [cellNumber, Config.edge, Config.lutBits]
    omega
  rw [hcell, h i j k hi hj hk]

/-- On the identity grid APPLY_TRI treats each channel by itself (rule R256's example). -/
theorem triPixel_of_holdsIdentity {s : State} (h : holdsIdentity s) (x : Bool) (w : Word) :
    s.triPixel x w =
      pack (identityChannel (red w) x) (identityChannel (green w) x) (identityChannel (blue w) x) 255#8 := by
  have hindex (p : Byte) : (axis p x).i0.toNat < 32 ∧ (axis p x).i1.toNat < 32 := by
    have := axis_bounds p x
    omega
  obtain ⟨hred0, hred1⟩ := hindex (red w)
  obtain ⟨hgreen0, hgreen1⟩ := hindex (green w)
  obtain ⟨hblue0, hblue1⟩ := hindex (blue w)
  have hlow : s.lowCorner w x = _ := gridAt_cellNumber_of_holdsIdentity h hblue0 hgreen0 hred0
  have hhigh : s.highCorner w x = _ := gridAt_cellNumber_of_holdsIdentity h hblue1 hgreen1 hred1
  simp only [State.triPixel, hlow, hhigh, red_pack, green_pack, blue_pack, blend_identity]

/-- Settles O49, for X = 1 and for X = 0. -/
theorem identityGridIsExact : Obligations.IdentityGridIsExact :=
  fun _ h w => ⟨triPixel_of_holdsIdentity h true w, triPixel_of_holdsIdentity h false w⟩

end Sys2Proof.Machine

namespace Sys2Proof.Machine

/-! # The idle block (O6) -/

/-- With no command running the engine's turn changes nothing (rule R335). -/
theorem engineTurn_idle {s : State} (hp : s.phase = .idle) : engineTurn s = .next s := by simp only [engineTurn, hp]

/-- Settles O6: both forms of the step are a turn of the idle engine. -/
theorem idleBlockKeepsState : Obligations.IdleBlockKeepsState := by
  refine fun s hp => ⟨fun hin => ?_, fun rest hin => ?_⟩
  · simp only [step, hin, engineTurn_idle hp]
  · have hidle : ({ s with inputs := rest } : State).phase = .idle := hp
    simp only [step, hin, takeInput, engineTurn_idle hidle]

/-! # Validation errors (O25 to O29)

One lemma for each check of rule R181 says which error a command that passes the checks before it is given. -/

/-- A command that fails validation ends at once with the error and its address (rules R180, R300 and R320). -/
theorem exec_of_firstError {i : Instr} {s : State} {e : CmdError} {a : Word} (hp : s.phase = .idle)
    (he : (commandOf i).firstError (s.accept (encode i)) = some (e, a)) :
    exec i s = .next (rejected s (encode i) e.code a) := by
  rw [exec_eq_step, step_idle _ _ hp]
  rcases begin_cases (commandOf i) s with ⟨e', a', herr, heq⟩ | ⟨hv, -⟩
  · rw [commandOf_word, he] at herr
    cases herr
    rw [heq, commandOf_word]
    rfl
  · rw [commandOf_word, he] at hv
    cases hv

/-- A command that passes the checks before those of its buffers: it is legal, samples a valid grid only, and is given
the dimensions of an image where it needs them (rule R181). -/
def Command.passesToBuffers (c : Command) (s : State) : Prop :=
  c.legal = true ∧ (c.needsGrid = true → s.gvalid = true) ∧ (c.needsImage = true → s.count = imageDims)

/-- The buffers of a command are aligned (rule R110). -/
def Command.buffersAligned (c : Command) (s : State) : Prop :=
  misalignedBuffer c.input s.src = false ∧ misalignedBuffer c.output s.dst = false

section FirstError
variable {c : Command} {s : State}

/-- The grid is looked at next after legality (rule R302). -/
theorem firstError_noGrid (hlegal : c.legal = true) (hneeds : c.needsGrid = true) (hgrid : s.gvalid = false) :
    c.firstError s = some (.noGrid, 0#32) := by
  simp [Command.firstError, hlegal, hneeds, hgrid]

/-- The image's dimensions are looked at before its base (rule R303). -/
theorem firstError_dim (hlegal : c.legal = true) (hneeds : c.needsGrid = false) (himage : c.needsImage = true)
    (hdims : s.count ≠ imageDims) : c.firstError s = some (.dim, 0#32) := by
  simp [Command.firstError, hlegal, hneeds, himage, hdims]

/-- A command that passes the first checks is given no error before those of its buffers (rule R181). -/
theorem firstError_of_passesToBuffers (h : c.passesToBuffers s) :
    c.firstError s =
      if misalignedBuffer c.input s.src then some (.align, s.src)
      else if misalignedBuffer c.output s.dst then some (.align, s.dst)
      else if beyondTop c.input s.src (c.elements.number s) then some (.range, s.src)
      else if beyondTop c.output s.dst (c.elements.number s) then some (.range, s.dst)
      else if badOverlap c.input c.output s.src s.dst (c.elements.number s) then some (.overlap, s.dst)
      else none := by
  obtain ⟨hlegal, hgrid, himage⟩ := h
  have hgrid' : (c.needsGrid && !s.gvalid) = false := by simpa using hgrid
  have himage' : (c.needsImage && s.count != imageDims) = false := by simpa using himage
  simp only [Command.firstError, hlegal, hgrid', himage', Bool.not_true, Bool.false_eq_true, if_false]

variable (h : c.passesToBuffers s)
include h

/-- SRC is checked first (rule R304). -/
theorem firstError_align_src (hsrc : misalignedBuffer c.input s.src = true) :
    c.firstError s = some (.align, s.src) := by
  rw [firstError_of_passesToBuffers h, if_pos hsrc]

/-- DST is checked after SRC (rule R304). -/
theorem firstError_align_dst (hsrc : misalignedBuffer c.input s.src = false)
    (hdst : misalignedBuffer c.output s.dst = true) : c.firstError s = some (.align, s.dst) := by
  rw [firstError_of_passesToBuffers h, hsrc, if_neg Bool.false_ne_true, if_pos hdst]

/-- What an aligned command is checked for: the end of each buffer, then their overlap (rules R305 and R306). -/
theorem firstError_of_buffersAligned (hal : c.buffersAligned s) :
    c.firstError s =
      if beyondTop c.input s.src (c.elements.number s) then some (.range, s.src)
      else if beyondTop c.output s.dst (c.elements.number s) then some (.range, s.dst)
      else if badOverlap c.input c.output s.src s.dst (c.elements.number s) then some (.overlap, s.dst)
      else none := by
  obtain ⟨hsrc, hdst⟩ := hal
  rw [firstError_of_passesToBuffers h, hsrc, hdst, if_neg Bool.false_ne_true, if_neg Bool.false_ne_true]

/-- The input buffer is checked first (rule R305). -/
theorem firstError_range_src (hal : c.buffersAligned s)
    (hsrc : beyondTop c.input s.src (c.elements.number s) = true) : c.firstError s = some (.range, s.src) := by
  rw [firstError_of_buffersAligned h hal, if_pos hsrc]

/-- The output buffer is checked after the input buffer (rule R305). -/
theorem firstError_range_dst (hal : c.buffersAligned s)
    (hsrc : beyondTop c.input s.src (c.elements.number s) = false)
    (hdst : beyondTop c.output s.dst (c.elements.number s) = true) : c.firstError s = some (.range, s.dst) := by
  rw [firstError_of_buffersAligned h hal, hsrc, if_neg Bool.false_ne_true, if_pos hdst]

/-- The overlap is checked last (rule R306). -/
theorem firstError_overlap (hal : c.buffersAligned s)
    (hsrc : beyondTop c.input s.src (c.elements.number s) = false)
    (hdst : beyondTop c.output s.dst (c.elements.number s) = false)
    (hover : badOverlap c.input c.output s.src s.dst (c.elements.number s) = true) :
    c.firstError s = some (.overlap, s.dst) := by
  rw [firstError_of_buffersAligned h hal, hsrc, hdst, if_neg Bool.false_ne_true, if_neg Bool.false_ne_true,
    if_pos hover]

end FirstError

/-! ## A buffer a command has -/

theorem misalignedBuffer_some_iff (el : Elem) (base : Word) :
    misalignedBuffer (some el) base = true ↔ base.toNat % el.size ≠ 0 := by simp [misalignedBuffer]

theorem misalignedBuffer_some_eq_false_iff (el : Elem) (base : Word) :
    misalignedBuffer (some el) base = false ↔ base.toNat % el.size = 0 := by simp [misalignedBuffer]

theorem beyondTop_some_iff (el : Elem) (base : Word) (n : Nat) :
    beyondTop (some el) base n = true ↔ 2 ^ 32 < base.toNat + el.size * n := by
  simp only [beyondTop_iff, Option.some.injEq, exists_eq_left']

theorem beyondTop_some_eq_false_iff (el : Elem) (base : Word) (n : Nat) :
    beyondTop (some el) base n = false ↔ base.toNat + el.size * n ≤ 2 ^ 32 := by
  rw [← Nat.not_lt, ← beyondTop_some_iff, Bool.not_eq_true]

/-! ## Which checks the commands pass -/

/-- A well-formed stream command with a valid grid, if it samples it, comes to the checks of its buffers. -/
theorem passesToBuffers_stream {i : Instr} {si di : Elem} {s : State} (hi : streamFormats i = some (si, di))
    (hwf : i.wf = true) (hgrid : samplesGrid i = true → s.gvalid = true) :
    (commandOf i).passesToBuffers (s.accept (encode i)) := by
  obtain ⟨hneeds, himage⟩ := stream_needs hi
  rw [Command.passesToBuffers, commandOf_legal, hneeds, himage]
  exact ⟨hwf, hgrid, nofun⟩

/-- A stream command with aligned bases (rule R110). -/
theorem buffersAligned_stream {i : Instr} {si di : Elem} {s : State} (hi : streamFormats i = some (si, di))
    (hsrc : s.src.toNat % si.size = 0) (hdst : s.dst.toNat % di.size = 0) :
    (commandOf i).buffersAligned (s.accept (encode i)) := by
  obtain ⟨hin, hout, -⟩ := stream_operands hi
  rw [Command.buffersAligned, hin, hout]
  exact ⟨(misalignedBuffer_some_eq_false_iff ..).mpr hsrc, (misalignedBuffer_some_eq_false_iff ..).mpr hdst⟩

/-- An image command given an image's dimensions comes to the check of its base. -/
theorem passesToBuffers_image {i : Instr} (hi : i = .lutLoad ∨ i = .lutStore) {s : State}
    (hcount : s.count = 0x00200400#32) : (commandOf i).passesToBuffers (s.accept (encode i)) := by
  have hdims : s.count = imageDims := hcount.trans imageDims_eq.symm
  rcases hi with rfl | rfl
  all_goals exact ⟨rfl, nofun, fun _ => hdims⟩

/-- A count whose halves are not the image's width and height is not that of an image (rule R47). -/
theorem count_ne_imageDims {v : Word} (h : v.extractLsb' 0 16 ≠ 1024#16 ∨ v.extractLsb' 16 16 ≠ 32#16) :
    v ≠ imageDims := by
  rintro rfl
  revert h
  decide

/-! ## The statements -/

/-- Settles O25: the two samplers are legal, so the grid is the first thing they fail on. -/
theorem samplersNeedGrid : Obligations.SamplersNeedGrid := by
  intro i s hi hp hgrid
  refine exec_of_firstError (e := .noGrid) hp ?_
  cases i with
  | applyTri | applyNearest => exact firstError_noGrid rfl rfl hgrid
  | _ => cases hi

/-- Settles O26: the two image commands are legal and sample no grid, so COUNT is the first thing they fail on. -/
theorem wrongImageSizeRejected : Obligations.WrongImageSizeRejected := by
  intro i s hi hp hcount
  refine exec_of_firstError (e := .dim) hp ?_
  rcases hi with rfl | rfl
  all_goals exact firstError_dim rfl rfl rfl (count_ne_imageDims hcount)

/-- Settles O27: the first of the bases that is misaligned is named. -/
theorem misalignedBufferRejected : Obligations.MisalignedBufferRejected := by
  refine ⟨fun i si di s hi hwf hp hgrid => ?_, fun s hp hcount => ⟨fun hsrc => ?_, fun hdst => ?_⟩⟩
  · have hpass := passesToBuffers_stream hi hwf hgrid
    obtain ⟨hin, hout, -⟩ := stream_operands hi
    refine ⟨fun hsrc => ?_, fun hsrc hdst => ?_⟩
    · exact exec_of_firstError hp
        (firstError_align_src hpass (by rwa [hin, misalignedBuffer_some_iff]))
    · exact exec_of_firstError hp
        (firstError_align_dst hpass (by rwa [hin, misalignedBuffer_some_eq_false_iff])
          (by rwa [hout, misalignedBuffer_some_iff]))
  · exact exec_of_firstError (i := .lutLoad) hp
      (firstError_align_src (passesToBuffers_image (.inl rfl) hcount) ((misalignedBuffer_some_iff ..).mpr hsrc))
  · exact exec_of_firstError (i := .lutStore) hp
      (firstError_align_dst (passesToBuffers_image (.inr rfl) hcount) rfl ((misalignedBuffer_some_iff ..).mpr hdst))

/-- Settles O28: the first of the buffers that ends beyond the top is named. -/
theorem bufferBeyondTopRejected : Obligations.BufferBeyondTopRejected := by
  refine ⟨fun i si di s hi hwf hp hgrid hsrcAl hdstAl => ?_,
    fun s hp hcount => ⟨fun hal htop => ?_, fun hal htop => ?_⟩⟩
  · have hpass := passesToBuffers_stream hi hwf hgrid
    have hal := buffersAligned_stream hi hsrcAl hdstAl
    obtain ⟨hin, hout, -⟩ := stream_operands hi
    refine ⟨fun hsrc => ?_, fun hsrc hdst => ?_⟩
    · exact exec_of_firstError hp
        (firstError_range_src hpass hal (by rwa [hin, stream_number hi, beyondTop_some_iff]))
    · exact exec_of_firstError hp
        (firstError_range_dst hpass hal (by rwa [hin, stream_number hi, beyondTop_some_eq_false_iff])
          (by rwa [hout, stream_number hi, beyondTop_some_iff]))
  · exact exec_of_firstError (i := .lutLoad) hp
      (firstError_range_src (passesToBuffers_image (.inl rfl) hcount)
        ⟨(misalignedBuffer_some_eq_false_iff ..).mpr hal, rfl⟩ ((beyondTop_some_iff ..).mpr htop))
  · exact exec_of_firstError (i := .lutStore) hp
      (firstError_range_dst (passesToBuffers_image (.inr rfl) hcount)
        ⟨rfl, (misalignedBuffer_some_eq_false_iff ..).mpr hal⟩ rfl ((beyondTop_some_iff ..).mpr htop))

/-- Settles O29: of the checks only the last one is left, and `badOverlap_iff` says when it fails. -/
theorem overlappingBuffersRejected : Obligations.OverlappingBuffersRejected := by
  intro i si di s hi hwf hp hgrid hsrcAl hdstAl hsrc hdst hbad
  obtain ⟨hin, hout, -⟩ := stream_operands hi
  refine exec_of_firstError hp (firstError_overlap (passesToBuffers_stream hi hwf hgrid)
    (buffersAligned_stream hi hsrcAl hdstAl) ?_ ?_ ?_)
  · rwa [hin, stream_number hi, beyondTop_some_eq_false_iff]
  · rwa [hout, stream_number hi, beyondTop_some_eq_false_iff]
  · rw [hin, hout, stream_number hi]
    exact (badOverlap_iff _ _ _ _ _ hsrcAl hdstAl hsrc hdst).mpr hbad

/-! # Bus errors (O41) -/

/-- The engine step whose read is answered by an error (rules R104 and R307). -/
theorem engineStep_read_busError {c : Command} {s : State} {l : List Word} {k : Nat}
    (hn : s.progress.toNat < c.elements.number s) (hr : l.length < c.reads)
    (hbus : s.memRead (c.inputAddress s s.progress.toNat l.length) = .busError) :
    c.engineStep s l k = .next (busFailed s (c.inputAddress s s.progress.toNat l.length)) := by
  unfold Command.engineStep Command.readStep
  rw [if_neg (by omega), if_pos hr, hbus]
  rfl

/-- The engine step whose write is answered by an error (rules R105 and R307). -/
theorem engineStep_write_busError {c : Command} {s : State} {l : List Word} {k : Nat}
    (hn : s.progress.toNat < c.elements.number s) (hr : c.reads ≤ l.length) (hw : k < c.writes)
    (hbus : ∀ w, s.memWrite (c.outputAddress s s.progress.toNat k) w = .busError) :
    c.engineStep s l k = .next (busFailed s (c.outputAddress s s.progress.toNat k)) := by
  unfold Command.engineStep Command.writeStep
  rw [if_neg (by omega), if_neg (by omega), if_pos hw, hbus]
  rfl

/-- Settles O41: the port answers an error where BUS_OK is false, and the step of the access ends the command. -/
theorem busErrorEndsCommand : Obligations.BusErrorEndsCommand := by
  intro i s l k hp hn
  rw [exec_eq_step, step_run _ _ hp]
  constructor
  · intro hr a hlt hal hbus
    exact engineStep_read_busError hn hr ((memRead_eq_busError_iff ..).mpr ⟨hlt, hal, hbus⟩)
  · intro hr hw a hlt hal hbus
    exact engineStep_write_busError hn hr hw fun w => (memWrite_eq_busError_iff ..).mpr ⟨hlt, hal, hbus⟩

/-! # The busy lock (O16) -/

/-- The offsets of the locked registers (rules R56 and R175). -/
theorem busyLocked_regAt {off : BitVec 12} (hoff : off.toNat % 4 = 0)
    (h : (0x010 ≤ off.toNat ∧ off.toNat ≤ 0x01C) ∨ (0x028 ≤ off.toNat ∧ off.toNat ≤ 0x030) ∨
      (0x040 ≤ off.toNat ∧ off.toNat < 0x0B8)) : (regAt off).busyLocked = true := by
  unfold regAt
  generalize off.toNat = n at hoff h ⊢
  split
  case h_14 =>
    simp only [imp_false] at *
    by_cases hcoef : 0x040 ≤ n ∧ n < 0x0AC
    · rw [if_pos hcoef]
      rfl
    · have hluma : 0x0AC ≤ n ∧ n < 0x0B8 := by omega
      rw [if_neg hcoef, if_pos hluma]
      rfl
  case h_5 | h_6 | h_7 | h_8 | h_11 | h_12 | h_13 => rfl
  all_goals omega

/-- While a command runs, a write to a locked register sets OVR and nothing else (rule R309). -/
theorem writeReg_locked {r : Reg} {s : State} (w : Word) (hb : s.busy = true) (hl : r.busyLocked = true) :
    writeReg r w s = .next { s with ovr := true } := by
  simp only [writeReg, hb, hl, Bool.and_self, if_true]

/-- Settles O16: the offsets are those of locked registers; the interrupt line does not look at OVR. -/
theorem busyLockSetsOnlyOvr : Obligations.BusyLockSetsOnlyOvr := by
  intro s off w rest l k hp hin hoff hrange
  refine ⟨?_, rfl⟩
  have hbusy : ({ s with inputs := rest } : State).busy = true := busy_run _ l k hp
  rw [step_hostWrite hin hoff, writeReg_locked w hbusy (busyLocked_regAt hoff hrange)]

/-! # The running command and OVR (O17) -/

/-- The state with another OVR. -/
def State.withOvr (s : State) (b : Bool) : State := { s with ovr := b }

/-- The outcome with another OVR in its next state. -/
def resultWithOvr (b : Bool) : Result → Result
  | .next t => .next (t.withOvr b)
  | .fault f => .fault f
  | .refused r => .refused r

/-- The port's reply with another OVR in its state. -/
def replyWithOvr (b : Bool) : PortReply State → PortReply State
  | .ok t => .ok (t.withOvr b)
  | .busError => .busError
  | .fault f => .fault f

/-- What a command computes does not look at OVR. -/
def Command.ignoresOvr (c : Command) : Prop :=
  ∀ (s : State) (b : Bool) (e : Nat) (l : List Word),
    c.outWords (s.withOvr b) e l = c.outWords s e l ∧ c.cell (s.withOvr b) e l = c.cell s e l

theorem commandOf_ignoresOvr (i : Instr) : (commandOf i).ignoresOvr := by cases i <;> exact fun _ _ _ _ => ⟨rfl, rfl⟩

section WithOvr
variable (c : Command) (s : State) (b : Bool)

theorem memRead_withOvr (a : Nat) : (s.withOvr b).memRead a = s.memRead a := rfl

theorem memWrite_withOvr (a : Nat) (w : Word) :
    (s.withOvr b).memWrite a w = replyWithOvr b (s.memWrite a w) := by
  have hbus : (s.withOvr b).busOk a = s.busOk a := rfl
  unfold State.memWrite
  rw [hbus]
  cases portFault a with
  | some f => rfl
  | none => cases s.busOk a <;> rfl

theorem number_withOvr : c.elements.number (s.withOvr b) = c.elements.number s := elements_number_congr _ rfl

theorem inputAddress_withOvr (e k : Nat) : c.inputAddress (s.withOvr b) e k = c.inputAddress s e k := rfl

theorem outputAddress_withOvr (e k : Nat) : c.outputAddress (s.withOvr b) e k = c.outputAddress s e k := rfl

end WithOvr

section IgnoresOvr
variable {c : Command} (hc : c.ignoresOvr) (s : State) (b : Bool)
include hc

theorem finishElement_withOvr (e : Nat) (l : List Word) :
    c.finishElement (s.withOvr b) e l = (c.finishElement s e l).withOvr b := by
  obtain ⟨-, hcell⟩ := hc s b e l
  unfold Command.finishElement
  rw [hcell, number_withOvr]
  split
  · split <;> rfl
  · split <;> rfl

theorem readStep_withOvr (e : Nat) (l : List Word) :
    c.readStep (s.withOvr b) e l = resultWithOvr b (c.readStep s e l) := by
  unfold Command.readStep
  rw [inputAddress_withOvr, memRead_withOvr]
  cases s.memRead (c.inputAddress s e l.length) with
  | fault f => rfl
  | busError => rfl
  | ok w =>
    dsimp only
    split
    · exact congrArg _ (finishElement_withOvr hc s b e _)
    · rfl

theorem writeStep_withOvr (e k : Nat) (l : List Word) :
    c.writeStep (s.withOvr b) e l k = resultWithOvr b (c.writeStep s e l k) := by
  obtain ⟨hout, -⟩ := hc s b e l
  unfold Command.writeStep
  rw [outputAddress_withOvr, hout, memWrite_withOvr]
  cases s.memWrite (c.outputAddress s e k) ((c.outWords s e l).getD k 0#32) with
  | fault f => rfl
  | busError => rfl
  | ok t =>
    dsimp only [replyWithOvr]
    split
    · exact congrArg _ (finishElement_withOvr hc t b e l)
    · rfl

theorem engineStep_withOvr (l : List Word) (k : Nat) :
    c.engineStep (s.withOvr b) l k = resultWithOvr b (c.engineStep s l k) := by
  have hprogress : (s.withOvr b).progress = s.progress := rfl
  unfold Command.engineStep
  rw [number_withOvr, hprogress]
  split
  · rfl
  · split
    · exact readStep_withOvr hc s b _ l
    · split
      · exact writeStep_withOvr hc s b _ k l
      · exact congrArg _ (finishElement_withOvr hc s b _ l)

end IgnoresOvr

/-- Settles O17: the step leaves OVR (O42), and it commutes with a change of OVR. -/
theorem runningCommandIgnoresOvr : Obligations.RunningCommandIgnoresOvr := by
  intro i s t l k b hp h
  obtain ⟨hlocked, -⟩ := commandsLeaveLockedState i s t h
  refine ⟨hlocked ▸ rfl, ?_⟩
  have hp' : (s.withOvr b).phase = .run l k := hp
  rw [exec_eq_step, step_run _ _ hp] at h
  calc exec i (s.withOvr b) = (commandOf i).engineStep (s.withOvr b) l k := by rw [exec_eq_step, step_run _ _ hp']
    _ = resultWithOvr b ((commandOf i).engineStep s l k) := engineStep_withOvr (commandOf_ignoresOvr i) s b l k
    _ = .next (t.withOvr b) := by rw [h]; rfl

/-! # The interrupt line (O21)

A step of a command either ends it with DONE or leaves the report, and both leave the enables; of the other steps only a
CTRL write and a reset change an enable, and neither sets DONE or ERR. -/

/-- The interrupt line as rule R310 puts it. -/
theorem irq_iff (s : State) :
    s.irq = true ↔ (s.done = true ∧ s.ieDone = true) ∨ (s.err = true ∧ s.ieErr = true) := by simp [State.irq]

/-- After a CTRL write the line is as the causes that stand and the new enables say (rules R173 and R310). -/
theorem irq_writeCtrl (s : State) (w : Word) :
    (s.writeCtrl w).irq = ((s.done && w.getLsbD 0) || (s.err && w.getLsbD 1)) := rfl

/-- A STATUS write leaves the causes it does not clear (rules R174 and R310). -/
theorem irq_writeStatus (s : State) (w : Word) :
    (s.writeStatus w).irq = ((s.done && !w.getLsbD 1 && s.ieDone) || (s.err && !w.getLsbD 2 && s.ieErr)) := rfl

/-! ## Steps of a command -/

/-- From `s` to `t` the enables stay, and the command of `s` has ended with DONE = 1, or runs on with the report as it
was. -/
def endsOrKeepsReport (s t : State) : Prop :=
  t.ieDone = s.ieDone ∧ t.ieErr = s.ieErr ∧
    ((t.phase = .idle ∧ t.done = true) ∨ (t.phase ≠ .idle ∧ t.done = s.done ∧ t.err = s.err))

/-- The interrupt line stays until the command ends, and is then as the enables say (rule R310). -/
theorem irq_of_endsOrKeepsReport {s t : State} (h : endsOrKeepsReport s t) :
    t.irq = if t.phase = .idle then s.ieDone || (t.err && s.ieErr) else s.irq := by
  obtain ⟨hdone, herr, ⟨hidle, hend⟩ | ⟨hrun, hsame⟩⟩ := h
  · simp [State.irq, hidle, hend, hdone, herr]
  · simp [State.irq, hrun, hsame, hdone, herr]

/-- The error end (rule R320). -/
theorem endsOrKeepsReport_raise (s : State) (e : CmdError) (a : Word) : endsOrKeepsReport s (s.raise e a) :=
  ⟨rfl, rfl, .inl ⟨rfl, rfl⟩⟩

/-- One more access of an element (rule R186). -/
theorem endsOrKeepsReport_access (s : State) (m : Memory) (l : List Word) (k : Nat) :
    endsOrKeepsReport s { s with mem := m, phase := .run l k } :=
  ⟨rfl, rfl, .inr ⟨nofun, rfl, rfl⟩⟩

/-- The start of a validated command (rule R182). -/
theorem endsOrKeepsReport_start (c : Command) {s : State} (hp : s.phase ≠ .idle) : endsOrKeepsReport s (c.start s) := by
  unfold Command.start
  dsimp only
  split
  · exact ⟨rfl, rfl, .inl ⟨rfl, rfl⟩⟩
  · exact ⟨rfl, rfl, .inr ⟨hp, rfl, rfl⟩⟩

/-- The end of an element (rules R186 and R187). -/
theorem endsOrKeepsReport_finishElement (c : Command) (s : State) (m : Memory) (e : Nat) (l : List Word) :
    endsOrKeepsReport s (c.finishElement { s with mem := m } e l) := by
  refine ⟨finishElement_ieDone .., finishElement_ieErr .., ?_⟩
  unfold Command.finishElement
  dsimp only
  split
  · exact .inl ⟨rfl, rfl⟩
  · split
    · exact .inr ⟨nofun, rfl, rfl⟩
    · exact .inr ⟨nofun, rfl, rfl⟩

/-- Acceptance clears the report, and then rejects the command or starts it (rules R180 to R182). -/
theorem endsOrKeepsReport_begin (c : Command) (s : State) : endsOrKeepsReport (s.accept c.word) (c.begin s) := by
  rcases begin_cases c s with ⟨e, a, -, heq⟩ | ⟨-, heq⟩
  · rw [heq]
    exact endsOrKeepsReport_raise ..
  · rw [heq]
    exact endsOrKeepsReport_start c nofun

/-- An engine step of a command (rules R186, R187 and R307). -/
theorem endsOrKeepsReport_engineStep {c : Command} {s t : State} {l : List Word} {k : Nat}
    (h : c.engineStep s l k = .next t) : endsOrKeepsReport s t := by
  obtain ⟨-, ⟨-, h⟩ | ⟨-, -, h⟩ | ⟨-, -, rfl⟩⟩ := engineStep_cases h
  · obtain ⟨-, rfl⟩ | ⟨-, ⟨-, -, rfl⟩ | ⟨-, rfl⟩⟩ := readStep_cases h
    · exact endsOrKeepsReport_raise ..
    · exact endsOrKeepsReport_finishElement c s s.mem ..
    · exact endsOrKeepsReport_access s s.mem ..
  · obtain ⟨-, rfl⟩ | ⟨-, ⟨-, rfl⟩ | ⟨-, rfl⟩⟩ := writeStep_cases h
    · exact endsOrKeepsReport_raise ..
    · exact endsOrKeepsReport_finishElement ..
    · exact endsOrKeepsReport_access ..
  · exact endsOrKeepsReport_finishElement c s s.mem ..

/-- A turn of the running engine (rule R170). -/
theorem endsOrKeepsReport_engineTurn {s t : State} (hp : s.phase ≠ .idle) (h : engineTurn s = .next t) :
    endsOrKeepsReport s t := by
  unfold engineTurn at h
  split at h
  · rename_i hidle
    exact absurd hidle hp
  · rename_i l k hrun
    split at h
    · rw [exec_eq_step, step_run _ _ hrun] at h
      exact endsOrKeepsReport_engineStep h
    · cases h

/-- The acceptance of any word, legal or not (rules R180 and R301). -/
theorem exists_startCommand {s : State} (hp : s.phase = .idle) (w : Word) :
    ∃ t, startCommand w s = .next t ∧ endsOrKeepsReport (s.accept w) t := by
  unfold startCommand
  split
  · rename_i i hd
    obtain ⟨-, rfl⟩ := (wordsAndCommandsCorrespond w i).mp hd
    refine ⟨(commandOf i).begin s, by rw [exec_eq_step, step_idle _ _ hp], ?_⟩
    simpa only [commandOf_word] using endsOrKeepsReport_begin (commandOf i) s
  · exact ⟨s.acceptIllegal w, rfl, endsOrKeepsReport_raise ..⟩

/-! ## Any step -/

/-- From `s` to `t` the enables stay, or neither DONE nor ERR is set anew. -/
def keepsEnablesOrSetsNothing (s t : State) : Prop :=
  (t.ieDone = s.ieDone ∧ t.ieErr = s.ieErr) ∨ ((t.done = true → s.done = true) ∧ (t.err = true → s.err = true))

/-- A command leaves the enables (O42). -/
theorem keepsEnables_exec {i : Instr} {s t : State} (h : exec i s = .next t) : keepsEnablesOrSetsNothing s t := by
  obtain ⟨hlocked, -⟩ := commandsLeaveLockedState i s t h
  exact .inl ⟨hlocked ▸ rfl, hlocked ▸ rfl⟩

theorem keepsEnables_engineTurn {s t : State} (h : engineTurn s = .next t) : keepsEnablesOrSetsNothing s t := by
  unfold engineTurn at h
  split at h
  · cases h
    exact .inl ⟨rfl, rfl⟩
  · split at h
    · exact keepsEnables_exec h
    · cases h

theorem keepsEnables_startCommand {w : Word} {s t : State} (h : startCommand w s = .next t) :
    keepsEnablesOrSetsNothing s t := by
  unfold startCommand at h
  split at h
  · exact keepsEnables_exec h
  · cases h
    exact .inl ⟨rfl, rfl⟩

/-- Of the register writes only that of CTRL changes an enable (rule R173). -/
theorem keepsEnables_writeReg {r : Reg} {w : Word} {s t : State} (h : writeReg r w s = .next t) :
    keepsEnablesOrSetsNothing s t := by
  unfold writeReg at h
  split at h
  · cases h
    exact .inl ⟨rfl, rfl⟩
  · cases r with
    | ctrl => cases h; exact .inr ⟨id, id⟩
    | cmd => exact keepsEnables_startCommand h
    | tabData => cases h; rw [writeTabData_frame]; exact .inl ⟨rfl, rfl⟩
    | coef m i j => cases h; exact .inl ⟨withCoef_ieDone .., withCoef_ieErr ..⟩
    | _ => cases h; exact .inl ⟨rfl, rfl⟩

/-- Of the inputs only a CTRL write and a reset change an enable (rules R173 and R341). -/
theorem keepsEnables_takeInput {x : Input} {s t : State} (h : takeInput x s = .next t) :
    keepsEnablesOrSetsNothing s t := by
  cases x with
  | engine => exact keepsEnables_engineTurn h
  | hostRead off =>
    simp only [takeInput, hostRead] at h
    split at h
    · cases h
      split <;> exact .inl ⟨rfl, rfl⟩
    · cases h
  | hostWrite off w =>
    simp only [takeInput, hostWrite] at h
    split at h
    · exact keepsEnables_writeReg h
    · cases h
  | memRead | memWrite => cases h; exact .inl ⟨rfl, rfl⟩
  | reset => cases h; exact .inr ⟨nofun, nofun⟩

theorem keepsEnables_step {s t : State} (h : step s = .next t) : keepsEnablesOrSetsNothing s t := by
  unfold step at h
  split at h
  · exact keepsEnables_engineTurn h
  · rename_i x rest _
    exact keepsEnables_takeInput (s := { s with inputs := rest }) h

/-! ## The statement -/

/-- A step that sets DONE or ERR anew with its enable set asserts the line (rule R310). -/
theorem irq_of_reportSet {s t : State} (h : step s = .next t) :
    (s.done = false → t.done = true → s.ieDone = true → t.irq = true) ∧
      (s.err = false → t.err = true → s.ieErr = true → t.irq = true) := by
  rw [irq_iff]
  obtain ⟨hdone, herr⟩ | ⟨hdone, herr⟩ := keepsEnables_step h
  · exact ⟨fun _ ht hs => .inl ⟨ht, hdone.trans hs⟩, fun _ ht hs => .inr ⟨ht, herr.trans hs⟩⟩
  · exact ⟨fun hs ht _ => absurd (hdone ht) (by simp [hs]), fun hs ht _ => absurd (herr ht) (by simp [hs])⟩

/-- The acceptance of a command deasserts the line unless it ends the command (rules R180 and R310). -/
theorem irq_of_cmdWrite {s : State} {w : Word} {rest : List Input} (hp : s.phase = .idle)
    (hin : s.inputs = .hostWrite 0x010#12 w :: rest) :
    ∃ t, step s = .next t ∧ t.irq = if t.phase = .idle then s.ieDone || (t.err && s.ieErr) else false := by
  have hidle : ({ s with inputs := rest } : State).phase = .idle := hp
  obtain ⟨t, hstart, hreport⟩ := exists_startCommand hidle w
  refine ⟨t, ?_, irq_of_endsOrKeepsReport hreport⟩
  rw [step_hostWrite_offset (r := .cmd) hin, writeReg_cmd hidle, hstart]

/-- An engine turn leaves the line until the command ends (rule R310). -/
theorem irq_of_engineTurn {s t : State} (hp : s.phase ≠ .idle)
    (hin : s.inputs = [] ∨ ∃ rest, s.inputs = .engine :: rest) (h : step s = .next t) :
    t.irq = if t.phase = .idle then s.ieDone || (t.err && s.ieErr) else s.irq := by
  rcases hin with hin | ⟨rest, hin⟩
  · simp only [step, hin] at h
    exact irq_of_endsOrKeepsReport (endsOrKeepsReport_engineTurn hp h)
  · simp only [step, hin, takeInput] at h
    exact irq_of_endsOrKeepsReport (endsOrKeepsReport_engineTurn (s := { s with inputs := rest }) hp h)

/-- Settles O21: the formula, the steps of a command, and the writes of STATUS and CTRL. -/
theorem interruptLine : Obligations.InterruptLine := by
  refine ⟨irq_iff, fun s t => irq_of_reportSet, fun s w rest => irq_of_cmdWrite, fun s t => irq_of_engineTurn,
    fun s w rest hin => ?_, fun s w rest hin => ?_⟩
  · refine ⟨({ s with inputs := rest } : State).writeStatus w, ?_, ?_⟩
    · rw [step_hostWrite_offset (r := .status) hin, writeReg_status]
    · rw [irq_writeStatus]
      refine ⟨fun hd he => ?_, fun hd he => ?_, fun hd he => ?_, fun hd he => ?_⟩
      all_goals
        rw [hd, he]
        simp [State.irq]
  · refine ⟨({ s with inputs := rest } : State).writeCtrl w, ?_, irq_writeCtrl _ w⟩
    rw [step_hostWrite_offset (r := .ctrl) hin, writeReg_ctrl]

end Sys2Proof.Machine

namespace Sys2Proof.Machine

/-! # The gamma tables after reset (O10)

Rule R346's exponent 2.2 is 11/5, so a bound on a power is an inequality between integers, its fifth power: the entries are
checked without real arithmetic. -/

/-! ## The power curve over the integers -/

/-- S_b, the scale of a bank (rule R346). -/
def bankScale : Bank → ℕ
  | .scale255 => 255
  | .scale256 => 256

theorem bankScale_pos (b : Bank) : 0 < bankScale b := by cases b <;> decide

/-- The exponent 2.2 disappears in the fifth power. -/
theorem powerCurve_pow_five {x : ℝ} (hx : 0 ≤ x) : (x ^ (2.2 : ℝ)) ^ 5 = x ^ 11 := by
  rw [← Real.rpow_mul_natCast hx, ← Real.rpow_natCast]
  norm_num

/-- Twice the power curve in Q7.24 (rule R346) at a quotient, as a fifth power without a quotient. -/
theorem two_mul_powerCurve_pow_five (a : ℕ) {c : ℕ} (hc : 0 < c) :
    (2 * (((a : ℝ) / c) ^ (2.2 : ℝ) * 2 ^ 24)) ^ 5 * (c : ℝ) ^ 11 = (a : ℝ) ^ 11 * 2 ^ 125 := by
  have hc' : (c : ℝ) ≠ 0 := by positivity
  rw [mul_pow, mul_pow, powerCurve_pow_five (by positivity)]
  field_simp

/-- The fifth power, negative numbers included, and a positive factor keep every comparison. -/
theorem strictMono_pow_five_mul {c : ℕ} (hc : 0 < c) : StrictMono fun y : ℝ => y ^ 5 * (c : ℝ) ^ 11 :=
  (Odd.strictMono_pow (by decide)).mul_const (by positivity)

/-- An integer is at most twice the power curve exactly when their fifth powers compare so. -/
theorem intCast_le_two_mul_powerCurve_iff (n : ℤ) (a : ℕ) {c : ℕ} (hc : 0 < c) :
    (n : ℝ) ≤ 2 * (((a : ℝ) / c) ^ (2.2 : ℝ) * 2 ^ 24) ↔ n ^ 5 * (c : ℤ) ^ 11 ≤ (a : ℤ) ^ 11 * 2 ^ 125 := by
  rw [← (strictMono_pow_five_mul hc).le_iff_le, two_mul_powerCurve_pow_five a hc]
  exact_mod_cast Iff.rfl

/-- An integer is below twice the power curve exactly when their fifth powers compare so. -/
theorem intCast_lt_two_mul_powerCurve_iff (n : ℤ) (a : ℕ) {c : ℕ} (hc : 0 < c) :
    (n : ℝ) < 2 * (((a : ℝ) / c) ^ (2.2 : ℝ) * 2 ^ 24) ↔ n ^ 5 * (c : ℤ) ^ 11 < (a : ℤ) ^ 11 * 2 ^ 125 := by
  rw [← (strictMono_pow_five_mul hc).lt_iff_lt, two_mul_powerCurve_pow_five a hc]
  exact_mod_cast Iff.rfl

/-- The check that `d` is the power curve at `a / c` in Q7.24, rounded half up. -/
def roundsPowerCurve (a c : ℕ) (d : ℤ) : Bool :=
  decide ((2 * d - 1) ^ 5 * (c : ℤ) ^ 11 ≤ (a : ℤ) ^ 11 * 2 ^ 125) &&
    decide ((a : ℤ) ^ 11 * 2 ^ 125 < (2 * d + 1) ^ 5 * (c : ℤ) ^ 11)

/-- The check that `e` is the power curve at `a / c` in Q7.24, rounded up. -/
def ceilsPowerCurve (a c : ℕ) (e : ℤ) : Bool :=
  decide ((2 * e - 2) ^ 5 * (c : ℤ) ^ 11 < (a : ℤ) ^ 11 * 2 ^ 125) &&
    decide ((a : ℤ) ^ 11 * 2 ^ 125 ≤ (2 * e) ^ 5 * (c : ℤ) ^ 11)

/-- What passes the rounding check is the floor of rule R346's decode formula. -/
theorem eq_floor_of_roundsPowerCurve {a c : ℕ} {d : ℤ} (hc : 0 < c) (h : roundsPowerCurve a c d = true) :
    d = ⌊((a : ℝ) / c) ^ (2.2 : ℝ) * 2 ^ 24 + 1 / 2⌋ := by
  simp only [roundsPowerCurve, Bool.and_eq_true, decide_eq_true_eq] at h
  rw [← intCast_le_two_mul_powerCurve_iff _ a hc, ← not_le, ← intCast_le_two_mul_powerCurve_iff _ a hc, not_le] at h
  obtain ⟨hlow, hhigh⟩ := h
  push_cast at hlow hhigh
  symm
  rw [Int.floor_eq_iff]
  exact ⟨by linarith, by linarith⟩

/-- What passes the ceiling check is the ceiling of rule R346's encode formula. -/
theorem eq_ceil_of_ceilsPowerCurve {a c : ℕ} {e : ℤ} (hc : 0 < c) (h : ceilsPowerCurve a c e = true) :
    e = ⌈((a : ℝ) / c) ^ (2.2 : ℝ) * 2 ^ 24⌉ := by
  simp only [ceilsPowerCurve, Bool.and_eq_true, decide_eq_true_eq] at h
  rw [← intCast_lt_two_mul_powerCurve_iff _ a hc, ← not_lt, ← intCast_lt_two_mul_powerCurve_iff _ a hc, not_lt] at h
  obtain ⟨hlow, hhigh⟩ := h
  push_cast at hlow hhigh
  symm
  rw [Int.ceil_eq_iff]
  exact ⟨by linarith, by linarith⟩

/-! ## The entries -/

/-- A check of every entry of a table beside its place, in one pass. -/
def everyEntry {n : ℕ} (check : ℕ → ℤ → Bool) (t : Vector Word n) : Bool :=
  t.toList.zipIdx.all fun e => check e.2 e.1.toInt

/-- What the pass says of an entry by number. -/
theorem check_of_everyEntry {n : ℕ} {check : ℕ → ℤ → Bool} {t : Vector Word n} (h : everyEntry check t = true) {i : ℕ}
    (hi : i < n) : check i (tableEntry t i).toInt = true := by
  rw [tableEntry_eq_getElem t hi]
  exact List.all_eq_true.mp h (t[i], i) (by simp [List.mk_mem_zipIdx_iff_getElem?, hi])

/-- The entries of rules R347 and R348 pass the rounding check, by evaluation. -/
theorem roundsPowerCurve_decTable_reset (b : Bank) :
    everyEntry (fun p => roundsPowerCurve p (bankScale b)) (State.reset.decTable b) = true := by
  cases b with
  | scale255 | scale256 => decide +kernel

/-- The entries of rules R349 and R350 pass the ceiling check, by evaluation; entry `k` stands at place `j = k - 1`, and
(k - 1/2) / S_b is (2 j + 1) / (2 S_b). -/
theorem ceilsPowerCurve_encTable_reset (b : Bank) :
    everyEntry (fun j => ceilsPowerCurve (2 * j + 1) (2 * bankScale b)) (State.reset.encTable b) = true := by
  cases b with
  | scale255 | scale256 => decide +kernel

/-- The decode table after reset is rule R346's formula. -/
theorem decTable_reset_eq_floor (b : Bank) {p : ℕ} (hp : p < 256) :
    (tableEntry (State.reset.decTable b) p).toInt = ⌊((p : ℝ) / bankScale b) ^ (2.2 : ℝ) * 2 ^ 24 + 1 / 2⌋ :=
  eq_floor_of_roundsPowerCurve (bankScale_pos b) (check_of_everyEntry (roundsPowerCurve_decTable_reset b) hp)

/-- The encode thresholds after reset are rule R346's formula. -/
theorem threshold_reset_eq_ceil (b : Bank) {k : ℕ} (h1 : 1 ≤ k) (hk : k < 256) :
    State.reset.threshold b k = ⌈(((k : ℝ) - 1 / 2) / bankScale b) ^ (2.2 : ℝ) * 2 ^ 24⌉ := by
  obtain ⟨j, rfl⟩ := Nat.exists_eq_add_of_le' h1
  have hceil := eq_ceil_of_ceilsPowerCurve (Nat.mul_pos two_pos (bankScale_pos b))
    (check_of_everyEntry (ceilsPowerCurve_encTable_reset b) (show j < 255 by omega))
  have hquot : (((j + 1 : ℕ) : ℝ) - 1 / 2) / bankScale b = ((2 * j + 1 : ℕ) : ℝ) / ((2 * bankScale b : ℕ) : ℝ) := by
    push_cast
    field_simp
    ring
  rw [hquot]
  exact hceil

/-! ## Growth and range -/

/-- Tables that interleave increase strictly on the decoding side (rule R346). -/
theorem decTable_lt_succ_of_interleaves {s : State} {b : Bank} (h : s.interleaves b) {p : ℕ} (hp : p < 255) :
    (tableEntry (s.decTable b) p).toInt < (tableEntry (s.decTable b) (p + 1)).toInt := by
  obtain ⟨hlow, hhigh⟩ := h (p + 1) (by omega) (by omega)
  exact hlow.trans_le hhigh

/-- Tables that interleave increase strictly on the encoding side (rule R346). -/
theorem threshold_lt_succ_of_interleaves {s : State} {b : Bank} (h : s.interleaves b) {k : ℕ} (h1 : 1 ≤ k)
    (hk : k < 255) : s.threshold b k < s.threshold b (k + 1) := by
  obtain ⟨-, hhigh⟩ := h k h1 hk.le
  obtain ⟨hlow, -⟩ := h (k + 1) (by omega) (by omega)
  exact hhigh.trans_lt hlow

/-- The reset tables interleave (rule R346). -/
theorem interleaves_reset (b : Bank) : State.reset.interleaves b := interleaves_afterReset [] [] [] 0 b

/-- No decode entry is negative after reset: the first is 0, and they increase. -/
theorem decTable_reset_nonneg (b : Bank) {p : ℕ} (hp : p < 256) :
    0 ≤ (tableEntry (State.reset.decTable b) p).toInt := by
  have hzero : (tableEntry (State.reset.decTable b) 0).toInt = 0 := by
    cases b with
    | scale255 | scale256 => decide +kernel
  exact hzero.ge.trans (decTable_mono_of_interleaves (interleaves_reset b) p.zero_le (by omega))

/-- Every encode threshold is positive after reset: it lies above a decode entry. -/
theorem threshold_reset_pos (b : Bank) {k : ℕ} (h1 : 1 ≤ k) (hk : k < 256) : 0 < State.reset.threshold b k := by
  obtain ⟨hlow, -⟩ := interleaves_reset b k h1 (by omega)
  exact (decTable_reset_nonneg b (by omega)).trans_lt hlow

/-- Settles O10: the entries by their integer check, growth and range by the interleaving of the tables. -/
theorem resetTablesArePowerCurve : Obligations.ResetTablesArePowerCurve := by
  intro b scale dec enc
  have hscale : scale = bankScale b := by
    cases b with
    | scale255 | scale256 => norm_num [scale, bankScale]
  rw [hscale]
  have hinter := interleaves_reset b
  exact ⟨fun p hp => ⟨decTable_reset_eq_floor b hp, decTable_reset_nonneg b hp, BitVec.toInt_lt⟩,
    fun k h1 hk => ⟨threshold_reset_eq_ceil b h1 hk, (threshold_reset_pos b h1 hk).le, BitVec.toInt_lt⟩,
    fun p hp => decTable_lt_succ_of_interleaves hinter hp,
    fun k h1 hk => threshold_lt_succ_of_interleaves hinter h1 hk,
    fun k h1 hk => hinter k h1 (by omega)⟩

end Sys2Proof.Machine

namespace Sys2Proof.Machine

/-! # The ramp and the grid after reset (O9) -/

/-- The grey ramp holds the grey of each value (rule R343). -/
theorem tableEntry_greyRamp (p : Byte) : tableEntry greyRamp p.toNat = pack p p p 255#8 := by
  rw [tableEntry_eq_getElem _ p.isLt]
  simp [greyRamp]

/-- A packed colour of alpha 255 is opaque already (rule R206). -/
theorem opaquePixel_pack (r g b : Byte) : opaquePixel (pack r g b 255#8) = pack r g b 255#8 := by
  simp [opaquePixel]

/-- With the grey ramp APPLY_MONO gives the grey of the selected value (rules R270 and R343). -/
theorem monoPixel_of_greyRamp {s : State} (h : s.ramp = greyRamp) (db eb : Bank) (ms : Mono) (w : Word) :
    s.monoPixel db eb ms w =
      pack (s.rampIndex db eb ms w) (s.rampIndex db eb ms w) (s.rampIndex db eb ms w) 255#8 := by
  rw [State.monoPixel, h, tableEntry_greyRamp, opaquePixel_pack]

/-- A grid without a written cell reads as the draw of the last reset (rule R342). -/
theorem gridAt_of_grid_nil {s : State} (h : s.grid = []) (m : ℕ) : s.gridAt m = Config.gridInit s.resets m := by
  rw [State.gridAt, h, cellGet_nil, Option.getD_none]

/-- Settles O9: reset loads the grey ramp and leaves no cell of the grid written. -/
theorem resetRampAndGrid : Obligations.ResetRampAndGrid :=
  fun _ _ _ _ => ⟨tableEntry_greyRamp, monoPixel_of_greyRamp rfl, gridAt_of_grid_nil rfl, rfl⟩

/-! # The registers after reset (O7) -/

/-- Each matrix is the identity after reset (rules R53 and R341). -/
theorem mat_afterReset (mem : Memory) (bus : List Word) (ins : List Input) (n : ℕ) (m : Fin 3) :
    (State.afterReset mem bus ins n).mat m = identityMat := by
  match m with
  | 0 | 1 | 2 => rfl

/-- The identity matrix holds 1.0 on its diagonal and 0 beside it (rule R53). -/
theorem channel_row_identityMat :
    ∀ i j : Fin 3, Lin.channel (Mat.row identityMat i) j = if i = j then 0x01000000#32 else 0#32 := by decide

/-- A coefficient register after reset (rule R341). -/
theorem readReg_coef_afterReset (mem : Memory) (bus : List Word) (ins : List Input) (n : ℕ) (m i j : Fin 3) :
    (State.afterReset mem bus ins n).readReg (.coef m i j) = if i = j then 0x01000000#32 else 0#32 := by
  rw [State.readReg, mat_afterReset, channel_row_identityMat]

/-- The enables and GVALID are clear after reset (rule R341). -/
theorem ctrlWord_afterReset (mem : Memory) (bus : List Word) (ins : List Input) (n : ℕ) :
    (State.afterReset mem bus ins n).ctrlWord = 0#32 := by
  simp [State.ctrlWord, State.afterReset]

/-- The status flags and the error code are clear after reset, and the engine is not busy (rule R341). -/
theorem statusWord_afterReset (mem : Memory) (bus : List Word) (ins : List Input) (n : ℕ) :
    (State.afterReset mem bus ins n).statusWord = 0#32 := by
  simp [State.statusWord, State.busy, State.afterReset]

/-- Settles O7: the coefficients by the identity matrix; every other row of rule R341's table is a field of the
state. -/
theorem resetRegisterValues : Obligations.ResetRegisterValues := fun mem bus ins n =>
  ⟨rfl, rfl, ctrlWord_afterReset mem bus ins n, statusWord_afterReset mem bus ins n, rfl, rfl, rfl, rfl, rfl, rfl, rfl,
    rfl, readReg_coef_afterReset mem bus ins n, rfl, rfl, rfl, rfl, rfl⟩

/-! # The reset input (O8) -/

/-- Settles O8: the step takes the input, which is the reset of the block. -/
theorem resetTakesOneStep : Obligations.ResetTakesOneStep := by
  intro s rest hin
  rw [step, hin]
  rfl

/-! # The invariant after reset (O52) -/

/-- After a reset nothing but system memory can fail the invariant: the grid has no cell, the report is clear and no
command runs (rules R341 and R342). -/
theorem inv_afterReset {mem : Memory} (bus : List Word) (ins : List Input) (n : ℕ) (h : mem.wf) :
    Inv (State.afterReset mem bus ins n) :=
  ⟨h, ⟨List.Pairwise.nil, nofun⟩, reportConsistent_clear rfl rfl, engineConsistent_of_idle rfl⟩

/-- Settles O52: State.reset is the reset beside the empty memory. -/
theorem resetMeetsInvariant : Obligations.ResetMeetsInvariant :=
  ⟨inv_afterReset [] [] 0 reset_memory_wf, fun _ bus ins n => inv_afterReset bus ins n⟩

end Sys2Proof.Machine
